-- ==== Sys2Proof/Word.lean ====
section
/-! DEFINITION. The word types of the ZK-7410's messages. Numbers inside the part (points, nets, milliohms, picoamps) are natural numbers; only what crosses the line as bytes is a bit vector. -/

namespace Sys2Proof

/-- One byte of a frame. -/
abbrev Byte := BitVec 8

/-- A two-byte payload field. -/
abbrev Word16 := BitVec 16

/-- A four-byte payload field. -/
abbrev Word32 := BitVec 32

/-- A sparse table: (key, value) pairs. Kept in one canonical form (keys strictly rising, no value equal to the
table's default) by the operations of Machine/Ops.lean. -/
abbrev SMap (α : Type) := List (Nat × α)

end Sys2Proof
end

