-- ==== Sys2Proof/Config.lean ====
section
/-! DEFINITION. What the part fixes: capacities and limits of 00_scope.md, and the values the manual leaves open (opaque, no body: nothing can be proved of them). -/

namespace Sys2Proof.Config

/-- Card slots (R1). -/
def slots : Nat := 64
/-- Channels, and points, of one card (R5). -/
def channels : Nat := 64
/-- Test points (00_scope.md). -/
def points : Nat := 4096
/-- Nets (R67). -/
def nets : Nat := 1024
/-- Points of one NET-WRITE request (R68). -/
def netWritePoints : Nat := 120
/-- Plan steps (R86). -/
def planSteps : Nat := 32
/-- Defect log slots (R172). -/
def logSlots : Nat := 256
/-- Summary slots (R184). -/
def summarySlots : Nat := 2
/-- Places of the transmit queue (R199). -/
def queuePlaces : Nat := 8
/-- Places of the transmit queue that hold notices (R199). -/
def noticePlaces : Nat := 7
/-- N-DEFECT notices queued at once (R201). -/
def streamPlaces : Nat := 3
/-- Requests the request list holds (R197). -/
def requestPlaces : Nat := 4
/-- Entries of the group-search stack (R51). -/
def stackEntries : Nat := 16
/-- The bus threshold of every safety decision, in millivolts (R28). -/
def safeBus : Nat := 30000
/-- What an OVER bus reading is handed over as, in millivolts (R28). -/
def busOver : Nat := 1638375
/-- Acts of the engines done within one command at most; far above what any state calls for (notes/assumptions/21.md). -/
def engineFuel : Nat := 1000000

/-- FREE VALUE (R205 states no value field for an OVER verdict, nor for a PROBE without verdict). -/
opaque freeProbeValue : Nat → Word32
/-- FREE VALUE (R205: over flag of a PROBE without verdict). -/
opaque freeProbeOver : Nat → Byte
/-- FREE VALUE (R205: range field of a PROBE without verdict). -/
opaque freeProbeRange : Nat → Byte
/-- FREE VALUE (R205: raw field of a PROBE without verdict). -/
opaque freeProbeRaw : Nat → Word16

end Sys2Proof.Config
end

