-- ==== Sys2Proof/Syntax.lean ====
section
/-! DEFINITION. The commands of the ZK-7410: one constructor for each row of spec/opcode_table.json. Operands of host requests are the payload fields of section 11.5 (R206); operands of events are what the input delivers. -/

namespace Sys2Proof

/-- The type field of a card's descriptor (R1, R3). -/
inductive CardType where
  | low
  | high
  deriving DecidableEq, Repr

/-- A card's answer to a scan probe, as it arrives (R1, R3). `ctype = none`: the type field is neither L nor H. -/
structure Answer where
  slot    : Nat
  ctype   : Option CardType
  rating  : Nat
  operate : BitVec 4
  release : BitVec 4
  deriving DecidableEq, Repr

/-- The two relays of a point, named by the bus they join it to (R6). -/
inductive Side where
  | a
  | b
  deriving DecidableEq, Repr

/-- The block of a CONT step with its given mask (R206, R88). -/
structure ContBlock where
  mask   : Word16
  first  : Word16
  last   : Word16
  range  : Byte
  n      : Byte
  rgood  : Word32
  ropen  : Word32
  shorts : Byte
  rshort : Word32
  deriving DecidableEq, Repr

/-- The block of an INSUL step with its given mask (R206, R89). -/
structure InsulBlock where
  mask      : Word16
  first     : Word16
  last      : Word16
  volts     : Word16
  slew      : Word16
  dwell     : Word16
  rmin      : Word32
  n         : Byte
  arcThr    : Byte
  arcCount  : Byte
  tripLevel : Byte
  tripDelay : Byte
  localise  : Byte
  deriving DecidableEq, Repr

/-- The block of a WATCH step with its given mask (R206, R90). -/
structure WatchBlock where
  mask     : Word16
  range    : Byte
  rgood    : Word32
  ropen    : Word32
  minBreak : Byte
  quiet    : Word16
  maxTime  : Word16
  pairs    : List (Word16 × Word16)
  deriving DecidableEq, Repr

/-- The payload of PLAN-ADD by its kind code (R87, R206). `other`: a kind code that is none of the three, with the
bytes that follow it. -/
inductive PlanBlock where
  | cont (b : ContBlock)
  | insul (b : InsulBlock)
  | watch (b : WatchBlock)
  | other (kind : Byte) (rest : List Byte)
  deriving DecidableEq, Repr

/-- One command. -/
inductive Instr where
  -- resets
  | powerOn (straps : BitVec 2)
  | resetPin (straps : BitVec 2)
  | resetAll
  | resetWork
  -- host requests
  | identify
  | cards
  | pointWrite (point : Word16) (lead : Word16) (release : Byte)
  | pointRead (point : Word16)
  | netErase (all : Byte) (id : Word16)
  | netWrite (id : Word16) (flag : Byte) (pts : List Word16)
  | netRead (id : Word16) (piece : Byte)
  | netSum
  | calWrite (range : Byte) (offset : Word16) (gain : Word16)
  | calRead
  | planErase
  | planAdd (block : PlanBlock)
  | planRead (index : Byte)
  | actionsWrite (acts : List Byte) (limit : Word16)
  | startPlan
  | startLearn (rlearn : Word32)
  | startZero (r : Word16) (lr : Word16)
  | pause
  | resume
  | abort
  | runRead
  | probe (a : Word16) (b : Word16) (range : Byte)
  | defectTake
  | streamSet (on : Byte)
  | printSet (enable : Byte) (baud : Byte) (timeout : Byte) (title : List Byte)
  | printCancel
  | hvRelease
  | safetyRead
  | noticeSet (mask : Byte)
  | watchdogSet (seconds : Byte)
  | unknown (type : Byte)
  -- host line
  | receivedByte (b : Byte)
  | interByteGapTimeout
  | frameSent
  | linkWatchdogExpiry
  -- backplane and matrix
  | scanDescriptor (d : Answer) (checkPassed : Bool)
  | scanProbeTimeout
  | batchRequest
  | cardAcknowledge (point : Nat) (side : Side)
  | cardAckTimeout (slot : Nat)
  | openPhaseWaitEnd
  | closePhaseWaitEnd
  | readbackReport (slot : Nat) (aCoils : BitVec 64) (bCoils : BitVec 64)
  | readbackTimeout (slot : Nat)
  -- measurement
  | windowOpen
  | settleTimeEnd
  | sample (raw : Word16)
  | insulationReading (leak : Word16) (hvm : Word16)
  | busMonitorReading (raw : Word16)
  -- high voltage
  | energisationEnable
  | rampTick
  | rampCheck
  | dwellTick
  | dwellTimeOut
  | fastReading (nanoamps : Nat)
  | dischargeFault
  | guardOpen
  | guardClose
  -- printer
  | characterSent (busy : Bool)
  | paperChange (present : Bool) (busy : Bool)
  | busyFall
  | busyTimeout
  deriving DecidableEq, Repr

end Sys2Proof
end

