-- ==== Sys2Proof/Machine/State.lean ====
section
/-! DEFINITION. Everything the ZK-7410 holds, block by block, as plain data; the reasons a step can stop; and the state after reset. -/

namespace Sys2Proof.Machine

/-! ### Matrix controller (chapter 1) -/

/-- The descriptor kept for a PRESENT or LOST card (R1). Its slot is the key of the card table. -/
structure Desc where
  ctype   : CardType
  rating  : Nat
  operate : BitVec 4
  release : BitVec 4
  deriving DecidableEq, Repr

/-- One card table entry (R1). -/
inductive Card where
  | absent
  | present (d : Desc)
  | lost (d : Desc)
  deriving DecidableEq, Repr

/-- The connection of a point (R6); `opn` is OPEN. -/
inductive Conn where
  | opn
  | a
  | b
  deriving DecidableEq, Repr

/-- The quarantine of a point (R7). -/
inductive Quar where
  | none
  | readback
  | cardLost
  deriving DecidableEq, Repr

/-- Why a side of a point was left unconnected (R10, R17, R18, R19). -/
inductive ExclReason where
  | absent
  | quarantined
  | bothSides
  | noClose
  | stuck
  | cardLost
  deriving DecidableEq, Repr

/-- An entry of a batch's excluded list (R10). -/
structure Excl where
  point  : Nat
  side   : Side
  reason : ExclReason
  deriving DecidableEq, Repr

/-- An entry of a batch's matrix faults (R20). -/
inductive MFault where
  | noClose (point : Nat)
  | stuck (slot : Nat)
  | lost (slot : Nat)
  deriving DecidableEq, Repr

/-- The result of a settled event (R20). -/
inductive BatchResult where
  | ok
  | stuck
  | frozen
  | aborted
  deriving DecidableEq, Repr

/-- Who asked for a batch (section 1.3). `probeOn` and `probeOff` are PROBE's two batches (R205). -/
inductive Requester where
  | cte
  | ise
  | wte
  | gsu
  | probeOn
  | probeOff
  | teardown
  | reset
  deriving DecidableEq, Repr

/-- A batch request (R9). -/
structure BatchReq where
  a   : List Nat
  b   : List Nat
  run : Bool
  who : Requester
  deriving DecidableEq, Repr

/-- Where a batch in flight stands (section 1.3). -/
inductive BatchPhase where
  | busWait
  | opening
  | openWait
  | closing
  | closeWait
  | readback
  deriving DecidableEq, Repr

/-- A relay command that its card has yet to acknowledge (R14). -/
structure RelayCmd where
  point : Nat
  side  : Side
  deriving DecidableEq, Repr

/-- The batch in flight (R10 to R21). -/
structure Batch where
  req     : BatchReq
  /-- the adjusted target: points not listed are to be OPEN (R10) -/
  adj     : SMap Conn
  excl    : List Excl
  faults  : List MFault
  phase   : BatchPhase
  /-- commands of this phase not yet acknowledged -/
  cmds    : List RelayCmd
  /-- slots that acknowledged a command in this phase -/
  phaseAcked : List Nat
  /-- slots that acknowledged a command in this batch -/
  acked   : List Nat
  /-- the wait of the phase, in milliseconds (R14, R15) -/
  waitMs  : Nat
  /-- slots whose readback has not yet been reported (R16) -/
  reads   : List Nat
  stuck   : Bool
  aborted : Bool
  deriving DecidableEq, Repr

/-- Which reset is in progress. -/
inductive ResetKind where
  | powerOn
  | pin
  | all
  | work
  deriving DecidableEq, Repr

/-- A card scan in progress (R2). -/
structure Scan where
  slot    : Nat
  kind    : ResetKind
  /-- whether a slot was LOST when the scan began (R25) -/
  hadLost : Bool
  deriving DecidableEq, Repr

structure Mxc where
  /-- card table; a slot not listed is ABSENT -/
  cards : SMap Card
  /-- connections; a point not listed is OPEN -/
  conn  : SMap Conn
  /-- quarantine; a point not listed has none -/
  quar  : SMap Quar
  scan  : Option Scan
  held  : List BatchReq
  batch : Option Batch
  /-- open commands of a readback (R17, R18) that their cards have yet to acknowledge -/
  opens : List RelayCmd
  deriving DecidableEq, Repr

/-! ### Measurement unit (chapter 2) -/

/-- The continuity ranges (R26). -/
inductive CRange where
  | cr0
  | cr1
  | cr2
  deriving DecidableEq, Repr

/-- A continuity range selection of a step or of PROBE (R88, R205). -/
inductive RangeSel where
  | fixed (r : CRange)
  | auto
  deriving DecidableEq, Repr

/-- The leakage ranges (R26). -/
inductive LRange where
  | ir0
  | ir1
  | ir2
  deriving DecidableEq, Repr

/-- A calibration entry (R35). -/
structure CalEntry where
  offset : Int
  gain   : Int
  uncal  : Bool
  deriving DecidableEq, Repr

/-- The calibration table (R35). -/
structure CalTable where
  cr0 : CalEntry
  cr1 : CalEntry
  cr2 : CalEntry
  ir0 : CalEntry
  ir1 : CalEntry
  ir2 : CalEntry
  hvm : CalEntry
  deriving DecidableEq, Repr

/-- A requester of sample windows (section 2.2). -/
inductive Owner where
  | cte
  | wte
  | probe
  deriving DecidableEq, Repr

/-- A request for a sample window: range, and the points whose leads are La and Lb (R29, R42; `none`: 0). -/
structure WinReq where
  owner : Owner
  range : CRange
  la    : Option Nat
  lb    : Option Nat
  deriving DecidableEq, Repr

/-- The sample window (R29). The source gate is open exactly while there is one. -/
structure Window where
  owner    : Owner
  la       : Option Nat
  lb       : Option Nat
  sampling : Bool
  deriving DecidableEq, Repr

structure Msu where
  cal       : CalTable
  contRange : CRange
  leakRange : LRange
  window    : Option Window
  waiting   : List WinReq
  /-- the first waiting request waits for bus safe (R29) -/
  busWait   : Bool
  /-- an insulation reading is under way (R34) -/
  reading   : Bool
  deriving DecidableEq, Repr

/-! ### High-voltage controller (chapter 7) -/

inductive HvState where
  | off
  | ramp
  | dwell
  | discharge
  deriving DecidableEq, Repr

/-- The parameters of an energisation (R129, R130): millivolts, V/s, milliseconds, picoamps, 0.1 ms units. -/
structure Energ where
  target    : Nat
  slew      : Nat
  dwell     : Nat
  tripLevel : Nat
  arcThr    : Nat
  tripDelay : Nat
  arcLimit  : Nat
  deriving DecidableEq, Repr

/-- The safety record (R129). -/
structure Safety where
  guardOpened    : Bool
  trip           : Bool
  linkLost       : Bool
  dischargeFault : Bool
  deriving DecidableEq, Repr

/-- A requester waiting for the bus to be made safe (R137). -/
inductive Waiter where
  | mxc
  | msu
  | rnc
  deriving DecidableEq, Repr

structure Hvc where
  state       : HvState
  guardClosed : Bool
  setpoint    : Nat
  energ       : Energ
  /-- an energisation is in progress: from the enable to the return to OFF (R129) -/
  energised   : Bool
  /-- the 200 ms hold at the target runs (R133) -/
  holding     : Bool
  /-- the ramp check has been handed to the ISE and waits for its answer (R133) -/
  checking    : Bool
  dwellClock  : Nat
  arcCount    : Nat
  tripRun     : Nat
  lastFast    : Nat
  energPeak   : Nat
  peakHold    : Nat
  tripLatch   : Bool
  dischLatch  : Bool
  linkExpired : Bool
  safety      : Safety
  waiters     : List Waiter
  /-- the 2000 ms discharge timer runs (R135) -/
  timer       : Bool
  /-- an energisation request whose conditions held and that waits to enable (R130) -/
  waitEnable  : Option Energ
  /-- the bus monitor value in millivolts (R28) -/
  bus         : Nat
  lamp        : Bool
  deriving DecidableEq, Repr

/-! ### Net store (chapter 4) -/

structure Nst where
  /-- net id to its members, ascending; an id not listed is undefined (R67) -/
  nets  : SMap (List Nat)
  /-- lead values in milliohms; a point not listed has 0 (R76) -/
  leads : SMap Nat
  deriving DecidableEq, Repr

/-! ### Group search unit (chapter 3) -/

inductive GsuState where
  | idle
  | asking
  | connecting
  | measuring
  | parked
  deriving DecidableEq, Repr

/-- The engine that started a search (R51). -/
inductive Caller where
  | cte
  | ise
  deriving DecidableEq, Repr

structure Gsu where
  state  : GsuState
  caller : Caller
  driven : List Nat
  cands  : List Nat
  /-- half-open intervals of positions, the top of the stack first -/
  stack  : List (Nat × Nat)
  cur    : Option (Nat × Nat)
  found  : Nat
  deriving DecidableEq, Repr

/-- Why a search ended (R53, R60, R64, R65). -/
inductive SearchEnd where
  | exhausted
  | refused
  | noDrive
  | abandoned
  deriving DecidableEq, Repr

/-! ### Defect records (chapter 9) -/

inductive DefectKind where
  | opn
  | highR
  | unstbl
  | short
  | lowIr
  | arc
  | trip
  | intmit
  | untest
  | matrix
  | dischg
  deriving DecidableEq, Repr

/-- The bound of a record (R169): on its value, or on its second value. -/
inductive Bound where
  | none
  | atLeast
  | atMost
  | atLeastSecond
  deriving DecidableEq, Repr

/-- What an engine hands to the log: the fields its rule names. The log and the run controller add the rest (R171). -/
structure Draft where
  kind   : DefectKind
  a      : Nat
  b      : Option Nat
  value  : Option Nat
  bound  : Bound
  second : Option Nat
  range  : Option Nat
  deriving DecidableEq, Repr

/-- A defect record (R169). -/
structure Rec where
  run      : Nat
  seq      : Nat
  kind     : DefectKind
  step     : Nat
  a        : Nat
  netA     : Nat
  b        : Option Nat
  netB     : Nat
  value    : Option Nat
  bound    : Bound
  second   : Option Nat
  range    : Option Nat
  time     : Nat
  host     : Bool
  print    : Bool
  inStream : Bool
  inPrint  : Bool
  deriving DecidableEq, Repr

/-- The engines that create records and ask for permits. -/
inductive EngineId where
  | cte
  | ise
  | wte
  deriving DecidableEq, Repr

structure Dlg where
  /-- records in creation order, oldest first (R172) -/
  recs      : List Rec
  /-- the entry place (R173) -/
  entry     : Option Rec
  /-- a slot is reserved for the granted unit (R173) -/
  reserved  : Bool
  /-- the engine that holds back because its record stands in the entry place, its run over or not (R173) -/
  heldBack  : Option EngineId
  streaming : Bool
  deriving DecidableEq, Repr

/-! ### Run controller (chapter 5) -/

structure ContParams where
  first  : Nat
  last   : Nat
  range  : RangeSel
  n      : Nat
  rgood  : Nat
  ropen  : Nat
  shorts : Bool
  rshort : Nat
  deriving DecidableEq, Repr

structure InsulParams where
  first     : Nat
  last      : Nat
  volts     : Nat
  slew      : Nat
  dwell     : Nat
  rmin      : Nat
  n         : Nat
  arcThr    : Nat
  arcCount  : Nat
  tripLevel : Nat
  tripDelay : Nat
  localise  : Bool
  deriving DecidableEq, Repr

structure WatchParams where
  range    : CRange
  rgood    : Nat
  ropen    : Nat
  minBreak : Nat
  quiet    : Nat
  maxTime  : Nat
  pairs    : List (Nat × Nat)
  deriving DecidableEq, Repr

/-- A step of the plan, as stored (R86, R88, R89, R90). -/
inductive PlanStep where
  | cont (p : ContParams)
  | insul (p : InsulParams)
  | watch (p : WatchParams)
  deriving DecidableEq, Repr

/-- A defect action (R92). -/
inductive Action where
  | log
  | hold
  | abort
  deriving DecidableEq, Repr

inductive RunState where
  | idle
  | running
  | held
  | ending
  | ended
  deriving DecidableEq, Repr

inductive RunKind where
  | plan
  | learn
  | zero
  deriving DecidableEq, Repr

/-- The reasons a run may be held (R93). -/
inductive HoldReason where
  | pause
  | operator
  | logFull
  | guard
  | linkLost
  | tripLatched
  deriving DecidableEq, Repr

/-- The hold set (R93). -/
structure HoldSet where
  pause       : Bool
  operator    : Bool
  logFull     : Bool
  guard       : Bool
  linkLost    : Bool
  tripLatched : Bool
  deriving DecidableEq, Repr

inductive Verdict where
  | none
  | pass
  | fail
  | aborted
  deriving DecidableEq, Repr

inductive EndReason where
  | none
  | completed
  | limit
  | hostAbort
  | defectAbort
  | stuckRelay
  | dischargeFault
  | netTableFull
  deriving DecidableEq, Repr

/-- What a permit is asked for (R97, R141): a unit at low voltage or that raises none, or an insulation unit. -/
inductive UnitKind where
  | low
  | insulation
  deriving DecidableEq, Repr

structure Rnc where
  plan    : List PlanStep
  actions : Vector Action 11
  limit   : Nat
  state   : RunState
  kind    : Option RunKind
  runNo   : Nat
  step    : Nat
  hold    : HoldSet
  counts  : Vector Nat 11
  total   : Nat
  clock   : Nat
  verdict : Verdict
  reason  : EndReason
  cursor  : Nat
  /-- the granted unit in progress (R97, R130) -/
  unit    : Option UnitKind
  /-- an engine was answered PARK and waits for the continue (R97) -/
  waits   : Bool
  /-- GUARD or LINK_LOST was added while an insulation energisation was in flight: HELD at its end (R103) -/
  struck  : Bool
  deriving DecidableEq, Repr

/-! ### Engines (chapters 2, 4, 6, 7, 8) -/

/-- The classes of a continuity sample (R46, R49). -/
inductive SampleClass where
  | good
  | high
  | opn
  | conduct
  | isolated
  deriving DecidableEq, Repr

/-- The filter record (R47). Its range in use is the open window's continuity range. -/
structure Filter where
  cls   : Option SampleClass
  len   : Nat
  count : Nat
  deriving DecidableEq, Repr

/-- The unit phases of the CTE and the WTE (R108, R157). -/
inductive UnitPhase where
  | idle
  | asking
  | parked
  | connecting
  | measuring
  | searching
  deriving DecidableEq, Repr

/-- The stage of a CONT step's net: about to start, PAIRS, record-only units left, SHORTS (R108, R110, R117). -/
inductive ContStage where
  | start
  | pairs
  | records (ps : List Nat)
  | shorts
  deriving DecidableEq, Repr

/-- A CONT step in progress (R108). -/
structure ContJob where
  p        : ContParams
  nets     : List Nat
  net      : Nat
  stage    : ContStage
  nominal  : Nat
  anchor   : Nat
  /-- the member at which the pair stage stands -/
  cursor   : Nat
  /-- the unit in progress is record-only (R112) -/
  recOnly  : Bool
  reported : List Nat
  filter   : Filter
  phase    : UnitPhase
  deriving DecidableEq, Repr

/-- A ZERO run in progress (R77, R78). -/
structure ZeroJob where
  r      : Nat
  lr     : Nat
  cursor : Nat
  filter : Filter
  phase  : UnitPhase
  deriving DecidableEq, Repr

/-- A LEARN run in progress (R81, R82, R83). -/
structure LearnJob where
  rlearn   : Nat
  nextId   : Nat
  cursor   : Nat
  /-- the net made by this search, if any -/
  net      : Option Nat
  reported : List Nat
  filter   : Filter
  phase    : UnitPhase
  deriving DecidableEq, Repr

/-- What the CTE works on. -/
inductive Cte where
  | none
  | cont (j : ContJob)
  | zero (j : ZeroJob)
  | learn (j : LearnJob)
  deriving DecidableEq, Repr

/-- The verdict of an insulation unit (R140). -/
inductive InsulVerdict where
  | none
  | lowIr
  | arc
  | trip
  | pass
  deriving DecidableEq, Repr

/-- The stage of an INSUL step's net: about to start, record-only units left (R141), its unit (R142),
localisation (R147), the net-level record of a localisation that found nothing (R149). -/
inductive InsulStage where
  | start
  | records (ps : List Nat)
  | unit
  | localise
  | netRecord
  deriving DecidableEq, Repr

inductive InsulPhase where
  | idle
  | asking
  | parked
  | connecting
  | energising
  | localising
  deriving DecidableEq, Repr

/-- A measured value as records carry it: value, bound, range index (R26). -/
structure Meas where
  value : Nat
  bound : Bound
  range : Nat
  deriving DecidableEq, Repr

/-- An INSUL step in progress (R140). -/
structure InsulJob where
  p        : InsulParams
  nets     : List Nat
  net      : Nat
  cands    : List Nat
  anchor   : Nat
  verdict  : InsulVerdict
  /-- value, bound and range of the deciding reading of the present energisation -/
  meas     : Meas
  /-- those of the net's own unit, kept through its localisation (R149) -/
  unitMeas : Meas
  leak     : LRange
  low      : Nat
  discard  : Bool
  reported : List Nat
  stage    : InsulStage
  phase    : InsulPhase
  /-- the energisation was removed (R146) -/
  removed  : Bool
  /-- the dwell time out has been handed over (R134) -/
  timedOut : Bool
  deriving DecidableEq, Repr

inductive PairState where
  | unknown
  | good
  | brk
  | untestable
  deriving DecidableEq, Repr

/-- The peak of a break: a resistance in milliohms, or OVER, which ranks above every value (R157). -/
inductive Peak where
  | value (r : Nat)
  | over
  deriving DecidableEq, Repr

/-- A pair record of the watch engine (R157). `start` and `peak` are absent together. -/
structure PairRec where
  a     : Nat
  b     : Nat
  state : PairState
  count : Nat
  brk   : Option (Nat × Peak)
  deriving DecidableEq, Repr

inductive WatchStage where
  | sampling
  /-- the indices of the pairs still to be visited (R166) -/
  | closing (rest : List Nat)
  deriving DecidableEq, Repr

/-- A WATCH step in progress (R157). -/
structure WatchJob where
  p       : WatchParams
  pairs   : List PairRec
  cursor  : Nat
  quiet   : Nat
  maxDead : Nat
  stage   : WatchStage
  recOnly : Bool
  phase   : UnitPhase
  deriving DecidableEq, Repr

/-- The predicate's answer to the GSU (R56). -/
inductive Answer3 where
  | positive (m : Meas)
  | negative
  | notMeasured
  | abandon
  deriving DecidableEq, Repr

/-- Why the HVC refused an energisation request (R130). -/
inductive HvCause where
  | state
  | guard
  | tripLatch
  | dischargeLatch
  | link
  | notRunning
  deriving DecidableEq, Repr

/-- One thing the engine at work is to do next. The acts marked *request* are those an engine holds back while its
record stands in the entry place (R173). -/
inductive Act where
  /-- the engine, in IDLE, decides its next unit -/
  | decide
  /-- request: ask the run controller for a permit (R97) -/
  | ask
  /-- request: create a record -/
  | record (d : Draft)
  /-- request: create the UNTEST record of a point not yet reported (R115) -/
  | untest (point : Nat)
  /-- request: create the UNTEST record of the watch pair at the cursor (R165) -/
  | pairUntest
  /-- request: open a sample window -/
  | window
  /-- request: hand the HVC an energisation request (R130) -/
  | energise
  /-- the rest of a pair unit's settled event (R113, R116, R117) -/
  | pairSettled (anchorLost memberLost : Bool)
  /-- the rest of a zeroing unit's settled event (R80) -/
  | zeroSettled (refLost pointLost : Bool)
  /-- the watch unit is complete: the cursor moves to the next pair (R159) -/
  | watchAdvance
  /-- the rest of a watch unit's settled event (R160) -/
  | watchSettled (bad : Bool)
  /-- the rest of an insulation unit's settled event (R142) -/
  | insulSettled
  /-- the GSU goes on after a settled event has been handed over (R55, R65) -/
  | searchSettled (ok : Bool) (undriven : Bool)
  /-- the GSU takes its next interval (R54) -/
  | searchNext
  /-- the predicate answers the GSU (R56) -/
  | searchAnswer (a : Answer3)
  /-- a found event reaches the caller: the point, its position in the candidate list, and the answer's value (R58) -/
  | found (point pos : Nat) (m : Meas)
  /-- a search ended event reaches the caller -/
  | searchEnded (e : SearchEnd) (found : Nat)
  /-- bus safe ends the ISE's energisation (R135) -/
  | insulSafe
  /-- the HVC refused the ISE's request (R143) -/
  | insulRefused (c : HvCause)
  deriving DecidableEq, Repr

/-! ### Print engine (chapter 10) -/

inductive PreState where
  | disabled
  | idle
  | printing
  | stalled
  | noPaper
  deriving DecidableEq, Repr

inductive Baud where
  | b9600
  | b19200
  | b38400
  deriving DecidableEq, Repr

/-- A step of the slot's step table: its kind and, for INSUL, the voltage (R184). -/
inductive StepWord where
  | cont
  | insul (volts : Nat)
  | watch
  deriving DecidableEq, Repr

/-- The figures of a run's end (R105, R185). -/
structure RunEnd where
  verdict : Verdict
  reason  : EndReason
  counts  : Vector Nat 11
  total   : Nat
  deriving DecidableEq, Repr

/-- An occupied summary slot (R184). The order of the list of slots is the claim order. -/
structure Slot where
  number  : Nat
  runNo   : Nat
  kind    : RunKind
  title   : List Byte
  nets    : Nat
  uncal   : Bool
  steps   : List StepWord
  header  : Bool
  ended   : Option RunEnd
  lastStep : Option Nat
  deriving DecidableEq, Repr

/-- What the line in the buffer is (R181); `crlf` is the closing CR LF of a cancel (R192). -/
inductive LineKind where
  | headerRun
  | headerTitle
  | headerUncal
  | step
  | defect
  | footer (i : Nat)
  | crlf
  deriving DecidableEq, Repr

/-- The line buffer (R181): the characters not yet begun, how many have been begun, what the line is, its slot, and the
baud rate in force when the line began, at which each of its characters is sent (R182, R191). -/
structure Line where
  rest : List Byte
  sent : Nat
  kind : LineKind
  slot : Nat
  baud : Baud
  deriving DecidableEq, Repr

structure Pre where
  state      : PreState
  enable     : Bool
  baud       : Baud
  timeout    : Nat
  title      : List Byte
  disPending : Bool
  slots      : List Slot
  line       : Option Line
  /-- the record in print (R181) -/
  inPrint    : Option Rec
  /-- the BUSY timer runs (R182) -/
  busyTimer  : Bool
  /-- the character on the printer wire -/
  onWire     : Option Byte
  paper      : Bool
  busy       : Bool
  deriving DecidableEq, Repr

/-! ### Frame link (chapter 11) -/

/-- The assembler (R196). `body` and `check` hold L and the bytes stored. -/
inductive Asm where
  | hunt
  | length
  | body (l : Nat) (got : List Byte)
  | check (l : Nat) (got : List Byte)
  deriving DecidableEq, Repr

/-- A frame the part sends: type and payload (R195). -/
structure Frame where
  type    : Byte
  payload : List Byte
  deriving DecidableEq, Repr

inductive NoticeKind where
  | defect
  | run
  | safety
  | printer
  | card
  deriving DecidableEq, Repr

/-- A queued notice (R199). -/
structure Notice where
  kind    : NoticeKind
  payload : List Byte
  deriving DecidableEq, Repr

/-- The frame the transmitter holds (R199). `stream`: an N-DEFECT whose record's host mark is to be cleared (R176). -/
structure Wire where
  frame   : Frame
  isReply : Bool
  stream  : Bool
  deriving DecidableEq, Repr

/-- A request in the request list, with the outcome of the FLK's own two checks, which depend on its frame alone
(R198): the request, or a type whose payload length is wrong. -/
inductive Request where
  | ok (i : Instr)
  | badLength (type : Byte)
  deriving DecidableEq, Repr

structure Flk where
  straps     : BitVec 2
  asm        : Asm
  discards   : Nat
  requests   : List Request
  /-- a request has been taken and its reply's last byte has not been sent (R197) -/
  busy       : Bool
  reply      : Option Frame
  notices    : List Notice
  wire       : Option Wire
  classRun     : Bool
  classSafety  : Bool
  classPrinter : Bool
  classCard    : Bool
  /-- the lost since set, ascending (R200) -/
  lostSince  : List Nat
  wdPeriod   : Nat
  wdRunning  : Bool
  expired    : Bool
  /-- the timer has run out and no frame has reloaded it since (R202); no reset of the host's clears it (R203) -/
  ranOut     : Bool
  deriving DecidableEq, Repr

/-! ### PROBE and resets -/

/-- PROBE's result field (R205). -/
inductive ProbeResult where
  | ok
  | excluded
  | stuck
  | frozen
  | unsafeBus
  deriving DecidableEq, Repr

/-- A PROBE in progress (R205). `reading`: R (none: OVER), range and raw code of the counted sample. -/
structure Probe where
  a       : Nat
  b       : Nat
  sel     : RangeSel
  result  : ProbeResult
  reading : Option (Option Nat × CRange × Word16)
  deriving DecidableEq, Repr

/-- A reset in progress: its kind, whether the run controller left a state other than IDLE (R107), and whether the
print engine's state changed (R183). -/
structure Resetting where
  kind       : ResetKind
  leftRun    : Bool
  preChanged : Bool
  deriving DecidableEq, Repr

/-! ### The machine -/

/-- The state of the ZK-7410. -/
structure State where
  /-- commands waiting, first in, first out (the model's own field) -/
  pending : List Instr
  mxc   : Mxc
  msu   : Msu
  hvc   : Hvc
  nst   : Nst
  gsu   : Gsu
  rnc   : Rnc
  cte   : Cte
  ise   : Option InsulJob
  wte   : Option WatchJob
  /-- what the engine at work is to do next (R173) -/
  todo  : List Act
  dlg   : Dlg
  pre   : Pre
  flk   : Flk
  probe : Option Probe
  resetting : Option Resetting
  /-- free values taken so far (the model's own field) -/
  free  : Nat
  deriving DecidableEq, Repr

/-- The reasons a step can stop the machine: none. Every command of the ZK-7410 has a next state. Safe: no command
is cut short. -/
inductive Fault where
  deriving DecidableEq, Repr

/-- The reasons the model gives a command no meaning. -/
inductive Refusal where
  /-- Raised by Dispatch for a command without a meaning; no command is left so. Safe. -/
  | notModelled (mnemonic : String)
  deriving DecidableEq, Repr

/-! ### Reset values -/

/-- A calibration entry after a full reset: identity, uncalibrated (R35). -/
def CalEntry.identity : CalEntry := { offset := 0, gain := 0, uncal := true }

def CalTable.identity : CalTable :=
  { cr0 := .identity, cr1 := .identity, cr2 := .identity, ir0 := .identity, ir1 := .identity, ir2 := .identity,
    hvm := .identity }

def HoldSet.empty : HoldSet :=
  { pause := false, operator := false, logFull := false, guard := false, linkLost := false, tripLatched := false }

def Safety.empty : Safety := { guardOpened := false, trip := false, linkLost := false, dischargeFault := false }

/-- No energisation. DESIGN CHOICE, notes/assumptions/9.md: these parameters have no meaning outside an energisation. -/
def Energ.zero : Energ :=
  { target := 0, slew := 0, dwell := 0, tripLevel := 0, arcThr := 0, tripDelay := 0, arcLimit := 0 }

/-- The defect actions after a full reset (R92): LOG, but TRIP (index 6) and DISCHG (index 10) ABORT. -/
def defaultActions : Vector Action 11 :=
  #v[.log, .log, .log, .log, .log, .log, .abort, .log, .log, .log, .abort]

/-- The defect limit after a full reset (R92). -/
def defaultLimit : Nat := 100

def Filter.fresh : Filter := { cls := none, len := 0, count := 0 }

/-- R66. The caller field has no meaning in IDLE (notes/assumptions/9.md). DESIGN CHOICE, notes/assumptions/46.md: the found
count is 0 once a search has ended or been cleared. -/
def Gsu.idle : Gsu :=
  { state := .idle, caller := .cte, driven := [], cands := [], stack := [], cur := none, found := 0 }

/-- R107. -/
def Rnc.reset : Rnc :=
  { plan := [], actions := defaultActions, limit := defaultLimit, state := .idle, kind := none, runNo := 0, step := 0,
    hold := .empty, counts := Vector.replicate 11 0, total := 0, clock := 0, verdict := .none, reason := .none,
    cursor := 0, unit := none, waits := false, struck := false }

/-- R180. -/
def Dlg.reset : Dlg := { recs := [], entry := none, reserved := false, heldBack := none, streaming := false }

/-- R193. The pins and the wire: notes/assumptions/9.md. -/
def Pre.reset : Pre :=
  { state := .disabled, enable := false, baud := .b9600, timeout := 10, title := [], disPending := false, slots := [],
    line := none, inPrint := none, busyTimer := false, onWire := none, paper := true, busy := false }

/-- R203. The strap code: notes/assumptions/9.md. -/
def Flk.reset : Flk :=
  { straps := 0, asm := .hunt, discards := 0, requests := [], busy := false, reply := none, notices := [],
    wire := none, classRun := true, classSafety := true, classPrinter := false, classCard := true, lostSince := [],
    wdPeriod := 0, wdRunning := false, expired := false, ranOut := false }

/-- R156. The guard, the bus monitor value and the fields of an energisation: notes/assumptions/9.md. -/
def Hvc.reset : Hvc :=
  { state := .off, guardClosed := true, setpoint := 0, energ := .zero, energised := false, holding := false,
    checking := false, dwellClock := 0, arcCount := 0, tripRun := 0, lastFast := 0, energPeak := 0, peakHold := 0,
    tripLatch := false, dischLatch := false, linkExpired := false, safety := .empty, waiters := [], timer := false,
    waitEnable := none, bus := 0, lamp := false }

/-- R50. -/
def Msu.reset : Msu :=
  { cal := .identity, contRange := .cr0, leakRange := .ir0, window := none, waiting := [], busWait := false,
    reading := false }

/-- R23, R24 over a backplane of empty slots (notes/assumptions/1.md). -/
def Mxc.reset : Mxc := { cards := [], conn := [], quar := [], scan := none, held := [], batch := none, opens := [] }

/-- R85. -/
def Nst.reset : Nst := { nets := [], leads := [] }

/-- The part when its power-on reset is complete and every slot was found ABSENT (R23 leaves the cards so before the
scan; notes/assumptions/1.md). -/
def State.reset : State :=
  { pending := [], mxc := .reset, msu := .reset, hvc := .reset, nst := .reset, gsu := .idle, rnc := .reset,
    cte := .none, ise := none, wte := none, todo := [], dlg := .reset, pre := .reset, flk := .reset, probe := none,
    resetting := none, free := 0 }

end Sys2Proof.Machine
end

