-- ==== Sys2Proof/Machine/Ops.lean ====
section
/-! DEFINITION. The shared operations over the part's tables: sparse tables, the point table's derived views, sorted lists, and the byte order of payload fields (R206). -/

namespace Sys2Proof

/-! ### Sparse tables -/

/-- The value of a key; `d` is what an unlisted key reads as. -/
def SMap.get {α : Type} (d : α) (k : Nat) : SMap α → α
  | [] => d
  | (j, v) :: m => if j = k then v else SMap.get d k m

/-- Remove a key. -/
def SMap.erase {α : Type} (k : Nat) (m : SMap α) : SMap α := m.filter fun e => e.1 != k

/-- Insert a pair at its place, before the first greater key; the key is not in the table. -/
def SMap.insert {α : Type} (k : Nat) (v : α) : SMap α → SMap α
  | [] => [(k, v)]
  | (j, w) :: m => if k < j then (k, v) :: (j, w) :: m else (j, w) :: SMap.insert k v m

/-- Write a key. Writing the default removes the entry, so that equal tables are equal data. -/
def SMap.set {α : Type} [DecidableEq α] (d : α) (k : Nat) (v : α) (m : SMap α) : SMap α :=
  if v = d then m.erase k else (m.erase k).insert k v

/-- Write several keys with one value. -/
def SMap.setAll {α : Type} [DecidableEq α] (d : α) (ks : List Nat) (v : α) (m : SMap α) : SMap α :=
  ks.foldl (fun m k => m.set d k v) m

/-- The canonical form: keys strictly rising, no entry equal to the default. -/
abbrev SMap.wf {α : Type} [DecidableEq α] (d : α) (m : SMap α) : Prop :=
  (m.map Prod.fst).Pairwise (· < ·) ∧ ∀ e ∈ m, e.2 ≠ d

namespace Machine

/-! ### Lists kept ascending without repeats -/

/-- Insert into an ascending list; a number already there is not listed twice. -/
def insertAsc (x : Nat) : List Nat → List Nat
  | [] => [x]
  | y :: ys => if x < y then x :: y :: ys else if x = y then y :: ys else y :: insertAsc x ys

/-- The numbers of a list in ascending order, each once. -/
def sortAsc (xs : List Nat) : List Nat := xs.foldl (fun acc x => insertAsc x acc) []

/-! ### Bytes (R206: little-endian) -/

/-- A one-byte field. -/
def le8 (n : Nat) : List Byte := [BitVec.ofNat 8 n]

/-- A two-byte field, low byte first. -/
def le16 (n : Nat) : List Byte := [BitVec.ofNat 8 n, BitVec.ofNat 8 (n / 256)]

/-- A four-byte field, low byte first. -/
def le32 (n : Nat) : List Byte :=
  [BitVec.ofNat 8 n, BitVec.ofNat 8 (n / 256), BitVec.ofNat 8 (n / 65536), BitVec.ofNat 8 (n / 16777216)]

/-- A two-byte field's number. -/
def of16 (lo hi : Byte) : Word16 := BitVec.ofNat 16 (lo.toNat + 256 * hi.toNat)

/-- A four-byte field's number. -/
def of32 (b0 b1 b2 b3 : Byte) : Word32 :=
  BitVec.ofNat 32 (b0.toNat + 256 * b1.toNat + 65536 * b2.toNat + 16777216 * b3.toNat)

/-- The characters of a text, as bytes. -/
def ascii (s : String) : List Byte := s.toList.map fun c => BitVec.ofNat 8 c.toNat

/-- Clamp to the nearest limit. -/
def clamp (lo hi n : Nat) : Nat := max lo (min hi n)

/-- Clamp a signed number to the nearest limit. -/
def clampInt (lo hi n : Int) : Int := max lo (min hi n)

/-! ### The point table (R5 to R8) -/

/-- The card table entry of a slot (R1). -/
def State.card (s : State) (slot : Nat) : Card := s.mxc.cards.get .absent slot

/-- The slot of a point (R5). -/
def slotOf (p : Nat) : Nat := p / Config.channels

/-- The points of a card (R5). -/
def cardPoints (slot : Nat) : List Nat := (List.range Config.channels).map fun c => slot * Config.channels + c

def Card.isPresent : Card → Bool
  | .present _ => true
  | _ => false

def Card.isLost : Card → Bool
  | .lost _ => true
  | _ => false

def Card.isAbsent : Card → Bool
  | .absent => true
  | _ => false

/-- The descriptor of a PRESENT or LOST card (R1). -/
def Card.desc : Card → Option Desc
  | .absent => none
  | .present d => some d
  | .lost d => some d

/-- A point is present when its slot is PRESENT or LOST (R5). -/
def State.present (s : State) (p : Nat) : Bool := !(s.card (slotOf p)).isAbsent

/-- The recorded connection of a point (R6). -/
def State.conn (s : State) (p : Nat) : Conn := s.mxc.conn.get .opn p

/-- The quarantine of a point (R7). -/
def State.quar (s : State) (p : Nat) : Quar := s.mxc.quar.get .none p

/-- Present and unquarantined (R110, R141). -/
def State.usable (s : State) (p : Nat) : Bool := s.present p && s.quar p == .none

/-- Every point of a PRESENT or LOST card, ascending. -/
def State.presentPoints (s : State) : List Nat :=
  s.mxc.cards.flatMap fun e => if e.2.isAbsent then [] else cardPoints e.1

/-- Slots in state PRESENT, ascending. -/
def State.presentSlots (s : State) : List Nat := (s.mxc.cards.filter fun e => e.2.isPresent).map Prod.fst

/-- Slots in state LOST, ascending (R25). -/
def State.lostSlots (s : State) : List Nat := (s.mxc.cards.filter fun e => e.2.isLost).map Prod.fst

/-- The rating limit: the lowest voltage rating among PRESENT cards, none when no card is PRESENT (R89). -/
def State.ratingLimit (s : State) : Option Nat :=
  s.mxc.cards.foldl (fun acc e => match e.2 with
    | .present d => some (match acc with
      | none => d.rating
      | some r => min r d.rating)
    | _ => acc) none

/-- Operate or release time in milliseconds: code 0 stands for 16 ms (R1, R3). -/
def relayTime (code : BitVec 4) : Nat := if code = 0 then 16 else code.toNat

/-- The lead value of a point (R76). -/
def State.lead (s : State) (p : Nat) : Nat := s.nst.leads.get 0 p

/-- The members of a net, ascending; none when it is undefined (R67). -/
def State.members (s : State) (id : Nat) : List Nat := s.nst.nets.get [] id

/-- The net field of a point: the net that lists it, 0 for an orphan (R67). -/
def State.netOf (s : State) (p : Nat) : Nat :=
  match s.nst.nets.find? fun e => e.2.contains p with
  | some e => e.1
  | none => 0

/-- Testable: two or more members (R74). -/
def State.testable (s : State) (id : Nat) : Bool := 2 ≤ (s.members id).length

/-- The testable nets from first to last, ascending (R109, R140). -/
def State.testableIn (s : State) (first last : Nat) : List Nat :=
  (s.nst.nets.filter fun e => first ≤ e.1 && e.1 ≤ last && 2 ≤ e.2.length).map Prod.fst

/-- The points that should be isolated from net `j`: usable, and of a testable net with a higher id, of a single-member
net, or orphans (R118, R140); ascending. -/
def State.candidates (s : State) (j : Nat) : List Nat :=
  s.presentPoints.filter fun p => s.quar p == .none &&
    (let k := s.netOf p; k == 0 || !(s.testable k) || j < k)

/-- The orphans above point `p` that are usable, ascending (R82). -/
def State.learnCandidates (s : State) (p : Nat) : List Nat :=
  s.presentPoints.filter fun q => p < q && s.quar q == .none && s.netOf q == 0

/-- A run is active while the run controller is RUNNING, HELD or ENDING (R93). -/
def State.active (s : State) : Bool :=
  s.rnc.state == .running || s.rnc.state == .held || s.rnc.state == .ending

/-- A run in RUNNING or HELD that has not taken its end cause (R93, R101). -/
def State.live (s : State) : Bool :=
  (s.rnc.state == .running || s.rnc.state == .held) && s.rnc.verdict == .none

/-- The matrix is marked moving: from the precondition's end to the settled event (R13). -/
def State.moving (s : State) : Bool :=
  match s.mxc.batch with
  | some b => b.phase != .busWait
  | none => false

/-- The HV source is enabled in RAMP and DWELL (R129). -/
def Hvc.sourceOn (h : Hvc) : Bool := h.state == .ramp || h.state == .dwell

/-- The discharge path is engaged in OFF and DISCHARGE (R129). -/
def Hvc.pathEngaged (h : Hvc) : Bool := !h.sourceOn

/-- The source gate is open exactly while a sample window exists (R29). -/
def Msu.gateOpen (m : Msu) : Bool := m.window.isSome

end Machine

end Sys2Proof
end

