-- ==== Sys2Proof/Machine/Flags.lean ====
section
/-! DEFINITION. The numbers: the continuity and insulation arithmetic (chapter 2), the classes of samples and readings, the verdict filter, and the sets of reasons and causes. -/

namespace Sys2Proof.Machine

/-! ### Ranges (R26) -/

/-- The factor F of a continuity range: tenths of a milliohm for one corrected code (R26). -/
def CRange.factor : CRange → Nat
  | .cr0 => 16
  | .cr1 => 160
  | .cr2 => 1600

/-- Full scale in milliohms (R26). -/
def CRange.fullScale : CRange → Nat
  | .cr0 => 104856
  | .cr1 => 1048560
  | .cr2 => 10485600

/-- The range index (R26). -/
def CRange.index : CRange → Nat
  | .cr0 => 0
  | .cr1 => 1
  | .cr2 => 2

/-- The next continuity range up (R48). -/
def CRange.up : CRange → Option CRange
  | .cr0 => some .cr1
  | .cr1 => some .cr2
  | .cr2 => none

/-- The range a window opens on (R48, R114, R205). -/
def RangeSel.first : RangeSel → CRange
  | .fixed r => r
  | .auto => .cr0

/-- Picoamps of one corrected code (R26). -/
def LRange.picoamps : LRange → Nat
  | .ir0 => 1000
  | .ir1 => 100
  | .ir2 => 10

/-- The range index (R26). -/
def LRange.index : LRange → Nat
  | .ir0 => 3
  | .ir1 => 4
  | .ir2 => 5

/-- The next more sensitive leakage range (R144). -/
def LRange.finer : LRange → LRange
  | .ir0 => .ir1
  | .ir1 => .ir2
  | .ir2 => .ir2

/-- One leakage range back (R144). -/
def LRange.coarser : LRange → LRange
  | .ir0 => .ir0
  | .ir1 => .ir0
  | .ir2 => .ir1

def CalTable.cont (t : CalTable) : CRange → CalEntry
  | .cr0 => t.cr0
  | .cr1 => t.cr1
  | .cr2 => t.cr2

def CalTable.leak (t : CalTable) : LRange → CalEntry
  | .ir0 => t.ir0
  | .ir1 => t.ir1
  | .ir2 => t.ir2

/-- Write the entry of a range index; an index above 6 names none (R36). -/
def CalTable.setIdx (t : CalTable) (i : Nat) (e : CalEntry) : CalTable :=
  match i with
  | 0 => { t with cr0 := e }
  | 1 => { t with cr1 := e }
  | 2 => { t with cr2 := e }
  | 3 => { t with ir0 := e }
  | 4 => { t with ir1 := e }
  | 5 => { t with ir2 := e }
  | 6 => { t with hvm := e }
  | _ => t

/-- The entries in index order, CR0 to HVM (R37). -/
def CalTable.entries (t : CalTable) : List CalEntry := [t.cr0, t.cr1, t.cr2, t.ir0, t.ir1, t.ir2, t.hvm]

/-! ### The arithmetic (R39 to R45) -/

/-- The raw code OVER (R26). -/
def isOver (raw : Word16) : Bool := raw == 65535#16

/-- The offset and gain stages (R40). -/
def CalEntry.correct (e : CalEntry) (raw : Word16) : Nat :=
  let k1 := (clampInt 0 65535 (raw.toNat + e.offset)).toNat
  (clampInt 0 65535 (((k1 : Int) * (65536 + e.gain) + 32768) / 65536)).toNat

/-- The scaling stage: Rraw in milliohms (R41). -/
def scaleMilliohms (r : CRange) (k2 : Nat) : Nat := (k2 * r.factor + 5) / 10

/-- Rraw of a continuity code; `none` is OVER (R39 to R41). -/
def rawResistance (t : CalTable) (r : CRange) (raw : Word16) : Option Nat :=
  if isOver raw then none else some (scaleMilliohms r ((t.cont r).correct raw))

/-- R: Rraw less the two leads, not below 0 (R42). -/
def resistance (t : CalTable) (r : CRange) (raw : Word16) (la lb : Nat) : Option Nat :=
  (rawResistance t r raw).map fun x => x - (la + lb)

/-- The bus voltage of an HVM code, in millivolts (R28, R43). -/
def busVoltage (t : CalTable) (hvm : Word16) : Nat :=
  if isOver hvm then Config.busOver else t.hvm.correct hvm * 25

/-- The largest resistance, in kilohms (R44). -/
def maxKilohms : Nat := 4294967295

/-- The insulation resistance in kilohms and its bound (R44). -/
def insulResistance (vmV iPa : Nat) (fromOver : Bool) : Nat × Bound :=
  if iPa = 0 then (maxKilohms, .atLeast)
  else
    let q := vmV * 1000000 / iPa
    if maxKilohms < q then (maxKilohms, .atLeast)
    else (q, if fromOver then .atMost else .none)

/-- What an insulation reading delivers of its leakage (R34, R43): OVER on IR1 or IR2, or a resistance with its bound
and, unless the code was OVER on IR0, the corrected code. -/
inductive Reading where
  | over
  | value (kilohms : Nat) (bound : Bound) (k2 : Option Nat)
  deriving DecidableEq, Repr

/-- An insulation reading: bus voltage in millivolts and leakage (R34, R43, R44). -/
def insulReading (t : CalTable) (r : LRange) (leak hvm : Word16) : Nat × Reading :=
  let v := busVoltage t hvm
  if isOver leak then
    match r with
    | .ir0 =>
      let (k, b) := insulResistance v 65535000 true
      (v, .value k b none)
    | _ => (v, .over)
  else
    let k2 := (t.leak r).correct leak
    let (k, b) := insulResistance v (k2 * r.picoamps) false
    (v, .value k b (some k2))

/-- LOW: below Rmin, which the plan gives in megohms (R45). -/
def isLow (kilohms rminMegohms : Nat) : Bool := kilohms < rminMegohms * 1000

/-! ### Classes and the filter (R46 to R49, R161) -/

/-- The class of a pair sample; `none` is OVER (R46). -/
def pairClass (rgood ropen : Nat) : Option Nat → SampleClass
  | none => .opn
  | some r => if r ≤ rgood then .good else if ropen < r then .opn else .high

/-- The class of a group sample (R49). -/
def groupClass (t : Nat) : Option Nat → SampleClass
  | none => .isolated
  | some r => if r ≤ t then .conduct else .isolated

/-- Count one classified sample (R47, step 2). -/
def Filter.count1 (f : Filter) (c : SampleClass) : Filter :=
  { cls := some c, len := if f.cls = some c then f.len + 1 else 1, count := f.count + 1 }

/-- What the filter says after a counted sample: N agreeing, or 3N without, or neither yet (R47, steps 3 and 4). -/
inductive FilterSays where
  | agreed (c : SampleClass)
  | unstable
  | more
  deriving DecidableEq, Repr

def Filter.says (f : Filter) (n : Nat) : FilterSays :=
  match f.cls with
  | some c => if n ≤ f.len then .agreed c else if 3 * n ≤ f.count then .unstable else .more
  | none => .more

/-- Watch classes: a break sample, a good sample, or between (R161). -/
inductive WatchClass where
  | brk
  | good
  | between
  deriving DecidableEq, Repr

def watchClass (rgood ropen : Nat) : Option Nat → WatchClass
  | none => .brk
  | some r => if ropen < r then .brk else if r ≤ rgood then .good else .between

/-- Raise a peak: OVER ranks above every value (R157). -/
def Peak.raise : Peak → Option Nat → Peak
  | .over, _ => .over
  | .value _, none => .over
  | .value x, some y => .value (max x y)

def Peak.ofSample : Option Nat → Peak
  | none => .over
  | some r => .value r

/-- A continuity reading as records carry it: OVER is the full scale of its range with AT_LEAST (R170). -/
def measOf (range : CRange) : Option Nat → Meas
  | none => { value := range.fullScale, bound := .atLeast, range := range.index }
  | some r => { value := r, bound := .none, range := range.index }

/-! ### Run clock arithmetic (R98, R163, R164) -/

/-- The modulus of the run clock. -/
def clockMod : Nat := 4294967296

/-- The run clock stands at or beyond a deadline (R164). -/
def reached (clock deadline : Nat) : Bool := (clock + clockMod - deadline) % clockMod < 2147483648

/-! ### Defect kinds and their tables (R92, R169) -/

/-- The place of a kind in R169's order. -/
def DefectKind.idx : DefectKind → Fin 11
  | .opn => 0
  | .highR => 1
  | .unstbl => 2
  | .short => 3
  | .lowIr => 4
  | .arc => 5
  | .trip => 6
  | .intmit => 7
  | .untest => 8
  | .matrix => 9
  | .dischg => 10

def allKinds : List DefectKind :=
  [.opn, .highR, .unstbl, .short, .lowIr, .arc, .trip, .intmit, .untest, .matrix, .dischg]

/-! ### The hold set (R93) -/

def HoldSet.has (h : HoldSet) : HoldReason → Bool
  | .pause => h.pause
  | .operator => h.operator
  | .logFull => h.logFull
  | .guard => h.guard
  | .linkLost => h.linkLost
  | .tripLatched => h.tripLatched

def HoldSet.put (h : HoldSet) (on : Bool) : HoldReason → HoldSet
  | .pause => { h with pause := on }
  | .operator => { h with operator := on }
  | .logFull => { h with logFull := on }
  | .guard => { h with guard := on }
  | .linkLost => { h with linkLost := on }
  | .tripLatched => { h with tripLatched := on }

/-- Remove several reasons, as far as they are in the set. -/
def HoldSet.remove (h : HoldSet) (rs : List HoldReason) : HoldSet := rs.foldl (fun h r => h.put false r) h

def HoldSet.isEmpty (h : HoldSet) : Bool := h == .empty

/-! ### The net checksum (R75) -/

/-- One shift of the CRC register. -/
def crcShift (r : Word16) : Word16 := if r.msb then (r <<< 1) ^^^ 0x1021#16 else r <<< 1

/-- Combine one byte with the register. -/
def crcByte (r : Word16) (b : Byte) : Word16 :=
  let x := r ^^^ (b.setWidth 16 <<< 8)
  crcShift (crcShift (crcShift (crcShift (crcShift (crcShift (crcShift (crcShift x)))))))

/-- The CRC of a byte sequence. -/
def crc16 (bs : List Byte) : Word16 := bs.foldl crcByte 0xFFFF#16

/-- The bytes the net checksum runs over (R75). -/
def netBytes (nets : SMap (List Nat)) : List Byte :=
  nets.flatMap fun e => le16 e.1 ++ le16 e.2.length ++ e.2.flatMap le16

end Sys2Proof.Machine
end

