-- ==== Sys2Proof/Machine/Operands.lean ====
section
/-! DEFINITION. The fields of messages: the codes of enumerated fields and sets, and the layouts of reply and notice payloads and of defect records (R206, R207). -/

namespace Sys2Proof.Machine

/-! ### Codes of enumerated fields, in the order the manual first lists their values (R206; notes/assumptions/15.md) -/

def Conn.code : Conn → Nat
  | .opn => 0
  | .a => 1
  | .b => 2

def Quar.code : Quar → Nat
  | .none => 0
  | .readback => 1
  | .cardLost => 2

def RunState.code : RunState → Nat
  | .idle => 0
  | .running => 1
  | .held => 2
  | .ending => 3
  | .ended => 4

/-- A run kind of none is sent as 3 (R206). -/
def kindCode : Option RunKind → Nat
  | some .plan => 0
  | some .learn => 1
  | some .zero => 2
  | none => 3

def Verdict.code : Verdict → Nat
  | .none => 0
  | .pass => 1
  | .fail => 2
  | .aborted => 3

def EndReason.code : EndReason → Nat
  | .none => 0
  | .completed => 1
  | .limit => 2
  | .hostAbort => 3
  | .defectAbort => 4
  | .stuckRelay => 5
  | .dischargeFault => 6
  | .netTableFull => 7

def Action.code : Action → Nat
  | .log => 0
  | .hold => 1
  | .abort => 2

/-- The action of a code (R92). -/
def Action.ofCode : Nat → Option Action
  | 0 => some .log
  | 1 => some .hold
  | 2 => some .abort
  | _ => none

def HvState.code : HvState → Nat
  | .off => 0
  | .ramp => 1
  | .dwell => 2
  | .discharge => 3

def PreState.code : PreState → Nat
  | .disabled => 0
  | .idle => 1
  | .printing => 2
  | .stalled => 3
  | .noPaper => 4

def Baud.code : Baud → Nat
  | .b9600 => 0
  | .b19200 => 1
  | .b38400 => 2

def Baud.ofCode : Nat → Option Baud
  | 0 => some .b9600
  | 1 => some .b19200
  | 2 => some .b38400
  | _ => none

def ProbeResult.code : ProbeResult → Nat
  | .ok => 0
  | .excluded => 1
  | .stuck => 2
  | .frozen => 3
  | .unsafeBus => 4

/-- Range codes of PROBE and of CONT and WATCH blocks: CR0, CR1, CR2, AUTO (R206). -/
def RangeSel.ofCode : Nat → Option RangeSel
  | 0 => some (.fixed .cr0)
  | 1 => some (.fixed .cr1)
  | 2 => some (.fixed .cr2)
  | 3 => some .auto
  | _ => none

def RangeSel.code : RangeSel → Nat
  | .fixed r => r.index
  | .auto => 3

/-- A one-byte flag: 0 for off, 1 for on, nothing else (R206). -/
def flagOf (b : Byte) : Option Bool :=
  if b = 0 then some false else if b = 1 then some true else none

/-- A yes/no field of a reply: 1 for yes (notes/assumptions/14.md). -/
def yesNo (b : Bool) : Nat := if b then 1 else 0

/-- A set as a bit mask, the first member at bit 0 (R206). -/
def maskOf : List Bool → Nat
  | [] => 0
  | b :: bs => yesNo b + 2 * maskOf bs

def HoldSet.code (h : HoldSet) : Nat :=
  maskOf [h.pause, h.operator, h.logFull, h.guard, h.linkLost, h.tripLatched]

def Safety.code (r : Safety) : Nat := maskOf [r.guardOpened, r.trip, r.linkLost, r.dischargeFault]

/-- A set of slots in eight bytes, slot 0 at bit 0 (R206, R207). -/
def slotSet (slots : List Nat) : List Byte :=
  (List.range 8).map fun i => BitVec.ofNat 8 (maskOf ((List.range 8).map fun j => slots.contains (8 * i + j)))

/-! ### Refusal codes (R198) -/

inductive RefusalCode where
  | unknown
  | length
  | badArg
  | busy
  | noRoom
  | absentPoint
  | conflict
  | rating
  | notSafe
  | noPlan
  | noNets
  | printBacklog
  | state
  deriving DecidableEq, Repr

def RefusalCode.code : RefusalCode → Nat
  | .unknown => 1
  | .length => 2
  | .badArg => 3
  | .busy => 4
  | .noRoom => 5
  | .absentPoint => 6
  | .conflict => 7
  | .rating => 8
  | .notSafe => 9
  | .noPlan => 10
  | .noNets => 11
  | .printBacklog => 12
  | .state => 13

/-! ### Frames (R195) -/

/-- The bytes of a frame: sync, L, type, payload, and a check that makes the sum of L, type, payload and check 0. -/
def Frame.bytes (f : Frame) : List Byte :=
  let l : Byte := BitVec.ofNat 8 (f.payload.length + 1)
  let sum := f.payload.foldl (· + ·) (l + f.type)
  [0xC3#8, l, f.type] ++ f.payload ++ [-sum]

/-- The check test of a received frame (R195): L, the type and payload bytes stored, and the check byte. -/
def checkPasses (l : Nat) (got : List Byte) (check : Byte) : Bool :=
  got.foldl (· + ·) (BitVec.ofNat 8 l) + check == 0

/-- The reply frame to a request type (R198). -/
def replyFrame (type : Byte) (payload : List Byte) : Frame := { type := type + 0x40#8, payload := payload }

/-- The REFUSED frame (R198). -/
def refusedFrame (type : Byte) (c : RefusalCode) : Frame := { type := 0x7F#8, payload := type :: le8 c.code }

/-! ### Defect records (R207) -/

def Bound.code : Bound → Nat
  | .none => 0
  | .atLeast => 1
  | .atMost => 2
  | .atLeastSecond => 3

/-- The 28 bytes of a record; absent fields are zero. -/
def Rec.bytes (r : Rec) : List Byte :=
  le16 r.run ++ le16 r.seq ++ le8 r.kind.idx.val ++ le8 r.step ++ le16 r.a ++ le16 r.netA ++
  le8 (maskOf [r.b.isSome, r.value.isSome, r.second.isSome, r.range.isSome] + 16 * r.bound.code) ++
  le16 (r.b.getD 0) ++ le16 (if r.b.isSome then r.netB else 0) ++ le32 (r.value.getD 0) ++
  le32 (r.second.getD 0) ++ le8 (r.range.getD 0) ++ le32 r.time

/-- Reason words of UNTEST records, in R170's order. -/
inductive UntestReason where
  | absent
  | readback
  | cardLost
  | alone
  deriving DecidableEq, Repr

def UntestReason.code : UntestReason → Nat
  | .absent => 0
  | .readback => 1
  | .cardLost => 2
  | .alone => 3

/-- Reason words of MATRIX records, in R170's order. -/
def MFault.code : MFault → Nat
  | .noClose _ => 0
  | .stuck _ => 1
  | .lost _ => 2

/-- The reason word TIMEOUT of a DISCHG record (R170). -/
def timeoutCode : Nat := 0

/-! ### Reply and notice payloads (R206, R207) -/

/-- Signed calibration fields are two's-complement (R206). -/
def leInt16 (i : Int) : List Byte := le16 (BitVec.ofInt 16 i).toNat

/-- The byte pair of a card table entry in CARDS (R206). -/
def Card.bytes : Card → List Byte
  | .absent => le8 2 ++ le8 0
  | .present d => le8 (0 + 4 * yesNo (d.ctype == .high)) ++ le8 (d.operate.toNat + 16 * d.release.toNat)
  | .lost d => le8 (1 + 4 * yesNo (d.ctype == .high)) ++ le8 (d.operate.toNat + 16 * d.release.toNat)

def CalEntry.bytes (e : CalEntry) : List Byte := leInt16 e.offset ++ leInt16 e.gain ++ le8 (yesNo e.uncal)

/-- A stored step: kind code and block (R206). -/
def PlanStep.bytes : PlanStep → List Byte
  | .cont p =>
    le8 0 ++ le16 p.first ++ le16 p.last ++ le8 p.range.code ++ le8 p.n ++ le32 p.rgood ++ le32 p.ropen ++
    le8 (yesNo p.shorts) ++ le32 p.rshort
  | .insul p =>
    le8 1 ++ le16 p.first ++ le16 p.last ++ le16 p.volts ++ le16 p.slew ++ le16 p.dwell ++ le32 p.rmin ++ le8 p.n ++
    le8 p.arcThr ++ le8 p.arcCount ++ le8 p.tripLevel ++ le8 p.tripDelay ++ le8 (yesNo p.localise)
  | .watch p =>
    le8 2 ++ le8 p.range.index ++ le32 p.rgood ++ le32 p.ropen ++ le8 p.minBreak ++ le16 p.quiet ++
    le16 p.maxTime ++ le8 p.pairs.length ++ p.pairs.flatMap fun q => le16 q.1 ++ le16 q.2

/-- The hold set as reports carry it: the reasons present in RUNNING and HELD, empty otherwise (R106). -/
def Rnc.shownHold (r : Rnc) : HoldSet :=
  if r.state = .running ∨ r.state = .held then r.hold else .empty

/-- The payload of N-RUN (R207). -/
def nRunPayload (s : State) : List Byte :=
  let r := s.rnc
  le8 r.state.code ++ le8 r.shownHold.code ++ le8 (kindCode r.kind) ++ le16 r.runNo ++ le8 r.step ++ le16 r.total ++
  le8 r.verdict.code ++ le8 r.reason.code

/-- The payload of N-SAFETY and of the SAFETY-READ reply (R154, R207). -/
def safetyPayload (s : State) : List Byte :=
  let h := s.hvc
  le8 h.safety.code ++ le8 (maskOf [!h.guardClosed, h.tripLatch, h.dischLatch, h.sourceOn]) ++ le8 h.state.code ++
  le32 h.bus ++ le32 h.peakHold

/-- The number of print-marked records in the log (R183). -/
def printMarked (s : State) : Nat := (s.dlg.recs.filter (·.print)).length

/-- The run number of the slot being printed, 0 when none is (R183). DESIGN CHOICE, notes/assumptions/43.md: no slot is being
printed while no line of one is in the buffer, as in IDLE. -/
def printingRun (s : State) : Nat :=
  match s.pre.line with
  | some l => match s.pre.slots.find? fun t => t.number == l.slot with
    | some t => if l.kind = .crlf then 0 else t.runNo
    | none => 0
  | none => 0

/-- The payload of N-PRINTER (R207). -/
def printerPayload (s : State) : List Byte :=
  le8 s.pre.state.code ++ le8 s.pre.slots.length ++ le16 (printingRun s) ++ le16 (printMarked s)

/-- The payload of N-CARD: the lost now and the lost since sets (R200). -/
def cardPayload (s : State) : List Byte := slotSet s.lostSlots ++ slotSet s.flk.lostSince

/-- The reply of IDENTIFY (R204, R206). -/
def identifyPayload (s : State) : List Byte :=
  ascii "IVELDOS" ++ ascii "ZK-7410" ++ ascii "C" ++ le8 s.presentSlots.length ++ le16 s.flk.discards ++
  le8 s.flk.straps.toNat ++ le16 Config.points ++ le16 Config.nets ++ le16 Config.planSteps ++ le16 Config.logSlots ++
  le16 Config.summarySlots ++ le16 Config.queuePlaces ++ le16 Config.stackEntries

/-- The reply of CARDS (R4, R206). -/
def cardsPayload (s : State) : List Byte := (List.range Config.slots).flatMap fun k => (s.card k).bytes

/-- The reply of POINT-READ (R8, R206). -/
def pointPayload (s : State) (p : Nat) : List Byte :=
  le16 p ++ le8 (yesNo (s.present p)) ++ le8 (s.conn p).code ++ le8 (s.quar p).code ++ le16 (s.netOf p) ++
  le16 (s.lead p)

/-- The piece of a net's member list that NET-READ returns (R73). -/
def netPiece (s : State) (id piece : Nat) : List Nat :=
  ((s.members id).drop (Config.netWritePoints * piece)).take Config.netWritePoints

/-- The reply of NET-READ (R73, R206). -/
def netReadPayload (s : State) (id piece : Nat) : List Byte :=
  let ms := s.members id
  let ps := netPiece s id piece
  le16 id ++ le8 (yesNo (!ms.isEmpty)) ++ le16 ms.length ++ le16 (ms.headD 0) ++ le8 piece ++ le8 ps.length ++
  ps.flatMap le16

/-- The reply of NET-SUM (R75, R206). -/
def netSumPayload (s : State) : List Byte :=
  let n := s.nst.nets
  le16 n.length ++ le16 (n.map fun e => e.2.length).sum ++ le16 (n.filter fun e => e.2.length == 1).length ++
  le16 (crc16 (netBytes n)).toNat

/-- The reply of CAL-READ (R37, R206). -/
def calPayload (s : State) : List Byte := s.msu.cal.entries.flatMap CalEntry.bytes

/-- The reply of ACTIONS-WRITE: all eleven actions and the limit as stored (R92, R206). -/
def actionsPayload (s : State) : List Byte :=
  s.rnc.actions.toList.flatMap (fun a => le8 a.code) ++ le16 s.rnc.limit

/-- The reply of PLAN-READ (R91, R206). -/
def planReadPayload (s : State) (i : Nat) : List Byte :=
  le8 s.rnc.plan.length ++ match s.rnc.plan[i]? with
    | some st => st.bytes
    | none => []

/-- The reply of RUN-READ (R106, R206). -/
def runReadPayload (s : State) : List Byte :=
  let r := s.rnc
  le8 r.state.code ++ le8 r.shownHold.code ++ le8 (kindCode r.kind) ++ le16 r.runNo ++ le8 r.step ++ le16 r.cursor ++
  r.counts.toList.flatMap le16 ++ le16 r.total ++ le32 r.clock ++ le8 r.verdict.code ++ le8 r.reason.code ++
  le8 r.plan.length ++ le16 s.dlg.recs.length

/-- The reply of PAUSE and RESUME (R99, R206). -/
def holdPayload (s : State) : List Byte := le8 s.rnc.state.code ++ le8 s.rnc.shownHold.code

/-- The reply of PRINT-SET (R191, R206). -/
def printSetPayload (s : State) : List Byte :=
  le8 (yesNo s.pre.enable) ++ le8 s.pre.baud.code ++ le8 s.pre.timeout ++ le8 s.pre.state.code ++
  le8 (yesNo s.pre.disPending) ++ le8 s.pre.slots.length

/-- The reply of HV-RELEASE: the latches and the peak hold (R153, R206). -/
def releasePayload (s : State) : List Byte :=
  le8 (maskOf [s.hvc.tripLatch, s.hvc.dischLatch]) ++ le32 s.hvc.peakHold

/-- The mask of the notice classes (R200, R206). -/
def classMask (f : Flk) : Nat := maskOf [f.classRun, f.classSafety, f.classPrinter, f.classCard]

/-- The reply of PROBE (R205, R206). `k` is the number of free values taken: fields the manual does not state are
free values (notes/assumptions/13.md). -/
def probePayload (p : Probe) (k : Nat) : List Byte :=
  match p.reading with
  | some (some r, range, raw) => le8 p.result.code ++ le32 r ++ le8 0 ++ le8 range.index ++ le16 raw.toNat
  | some (none, range, raw) =>
    le8 p.result.code ++ le32 (Config.freeProbeValue k).toNat ++ le8 1 ++ le8 range.index ++ le16 raw.toNat
  | none =>
    le8 p.result.code ++ le32 (Config.freeProbeValue k).toNat ++ [Config.freeProbeOver k] ++
    [Config.freeProbeRange k] ++ le16 (Config.freeProbeRaw k).toNat

/-! ### Calibration write (R36) -/

/-- The stored offset: clamped to −2048 to +2047. -/
def storedOffset (w : Word16) : Int := clampInt (-2048) 2047 w.toInt

/-- The stored gain: clamped to −16384 to +16383. -/
def storedGain (w : Word16) : Int := clampInt (-16384) 16383 w.toInt

/-! ### Plan steps: defaults, checks and clamps (R87 to R90) -/

/-- A parameter is given when its mask bit is set (R87, R206). -/
def given (mask : Word16) (i : Nat) : Bool := mask.getLsbD i

/-- The field's number when given, else the default (R87). -/
def orDefault (mask : Word16) (i : Nat) (v d : Nat) : Nat := if given mask i then v else d

/-- An on/off parameter: given and coded, or the default; `none` for another code (R206). -/
def flagParam (mask : Word16) (i : Nat) (b : Byte) (d : Bool) : Option Bool :=
  if given mask i then flagOf b else some d

/-- Rgood lowered to Ropen if above it (R88, R90). -/
def lowered (rgood ropen : Nat) : Nat := min rgood ropen

/-- A CONT step as stored, or `none` for BAD_ARG (R87, R88). -/
def contStep (b : ContBlock) : Option PlanStep :=
  let m := b.mask
  if !(given m 0 && given m 1) then none
  else
    let first := clamp 1 1024 b.first.toNat
    let last := clamp 1 1024 b.last.toNat
    let range := if given m 2 then RangeSel.ofCode b.range.toNat else some .auto
    let shorts := flagParam m 6 b.shorts true
    if last < first then none
    else
      let ropen := clamp 0 10485600 (orDefault m 5 b.ropen.toNat 100000)
      let rgood := clamp 0 10485600 (orDefault m 4 b.rgood.toNat 5000)
      match range, shorts with
      | some range, some shorts =>
        some (.cont
          { first := first, last := last, range := range, n := clamp 1 8 (orDefault m 3 b.n.toNat 2),
            rgood := lowered rgood ropen, ropen := ropen, shorts := shorts,
            rshort := clamp 0 10485600 (orDefault m 7 b.rshort.toNat 10000000) })
      | _, _ => none

/-- An INSUL step as stored, or `none` for BAD_ARG (R87, R89). -/
def insulStep (b : InsulBlock) : Option PlanStep :=
  let m := b.mask
  if !(given m 0 && given m 1 && given m 2) then none
  else
    let first := clamp 1 1024 b.first.toNat
    let last := clamp 1 1024 b.last.toNat
    if last < first then none
    else
      match flagParam m 11 b.localise true with
      | some localise =>
        some (.insul
          { first := first, last := last, volts := clamp 50 1500 (b.volts.toNat / 10 * 10),
            slew := clamp 50 5000 (orDefault m 3 b.slew.toNat 500),
            dwell := clamp 10 60000 (orDefault m 4 b.dwell.toNat 1000),
            rmin := clamp 1 4000000 (orDefault m 5 b.rmin.toNat 100),
            n := clamp 1 8 (orDefault m 6 b.n.toNat 3),
            arcThr := clamp 1 60 (orDefault m 7 b.arcThr.toNat 20),
            arcCount := clamp 1 255 (orDefault m 8 b.arcCount.toNat 5),
            tripLevel := clamp 1 60 (orDefault m 9 b.tripLevel.toNat 50),
            tripDelay := clamp 0 50 (orDefault m 10 b.tripDelay.toNat 10), localise := localise })
      | none => none

/-- A WATCH step as stored, or `none` for BAD_ARG (R87, R90). -/
def watchStep (b : WatchBlock) : Option PlanStep :=
  let m := b.mask
  let pairs := b.pairs.map fun q => (q.1.toNat, q.2.toNat)
  if !(given m 6) || pairs.length == 0 || 16 < pairs.length then none
  else if pairs.any (fun q => Config.points ≤ q.1 || Config.points ≤ q.2 || q.1 == q.2) then none
  else
    match (if given m 0 then RangeSel.ofCode b.range.toNat else some (.fixed .cr1)) with
    | some (.fixed range) =>
      let ropen := clamp 0 10485600 (orDefault m 2 b.ropen.toNat 100000)
      let rgood := clamp 0 10485600 (orDefault m 1 b.rgood.toNat 5000)
      some (.watch
        { range := range, rgood := lowered rgood ropen, ropen := ropen,
          minBreak := clamp 1 8 (orDefault m 3 b.minBreak.toNat 1),
          quiet := clamp 1 600 (orDefault m 4 b.quiet.toNat 30),
          maxTime := clamp 1 3600 (orDefault m 5 b.maxTime.toNat 300), pairs := pairs })
    | _ => none

/-- The step of a PLAN-ADD payload as stored, or `none` for BAD_ARG (R87). -/
def storedStep : PlanBlock → Option PlanStep
  | .cont b => contStep b
  | .insul b => insulStep b
  | .watch b => watchStep b
  | .other _ _ => none

end Sys2Proof.Machine
end

