-- ==== Sys2Proof/Decode.lean ====
section
/-! DEFINITION. The host's requests as payloads (section 11.5), read and written; and the host's word decoder, which answers none: the table gives no command any bits. -/

namespace Sys2Proof

open Machine

/-- A request without payload. -/
def bare (i : Instr) (t : Byte) : List Byte → Request
  | [] => .ok i
  | _ => .badLength t

/-- The points of a payload, two bytes each; none for an odd number of bytes. -/
def points16 : List Byte → Option (List Word16)
  | [] => some []
  | lo :: hi :: rest => (points16 rest).map fun ps => of16 lo hi :: ps
  | [_] => none

/-- The pairs of a WATCH block, four bytes each. -/
def pairs16 : List Byte → Option (List (Word16 × Word16))
  | [] => some []
  | a0 :: a1 :: b0 :: b1 :: rest => (pairs16 rest).map fun ps => (of16 a0 a1, of16 b0 b1) :: ps
  | _ => none

/-- The block of a CONT step (R206). -/
def readCont (mask : Word16) : List Byte → Option PlanBlock
  | [f0, f1, l0, l1, range, n, g0, g1, g2, g3, o0, o1, o2, o3, shorts, h0, h1, h2, h3] =>
    some (.cont { mask := mask, first := of16 f0 f1, last := of16 l0 l1, range := range, n := n,
                  rgood := of32 g0 g1 g2 g3, ropen := of32 o0 o1 o2 o3, shorts := shorts, rshort := of32 h0 h1 h2 h3 })
  | _ => none

/-- The block of an INSUL step (R206). -/
def readInsul (mask : Word16) : List Byte → Option PlanBlock
  | [f0, f1, l0, l1, v0, v1, s0, s1, d0, d1, r0, r1, r2, r3, n, thr, cnt, lvl, del, loc] =>
    some (.insul { mask := mask, first := of16 f0 f1, last := of16 l0 l1, volts := of16 v0 v1, slew := of16 s0 s1,
                   dwell := of16 d0 d1, rmin := of32 r0 r1 r2 r3, n := n, arcThr := thr, arcCount := cnt,
                   tripLevel := lvl, tripDelay := del, localise := loc })
  | _ => none

/-- The block of a WATCH step; its pair count implies its length (R198, R206). -/
def readWatch (mask : Word16) : List Byte → Option PlanBlock
  | range :: g0 :: g1 :: g2 :: g3 :: o0 :: o1 :: o2 :: o3 :: minBreak :: q0 :: q1 :: m0 :: m1 :: count :: rest =>
    match pairs16 rest with
    | some pairs =>
      if pairs.length = count.toNat then
        some (.watch { mask := mask, range := range, rgood := of32 g0 g1 g2 g3, ropen := of32 o0 o1 o2 o3,
                       minBreak := minBreak, quiet := of16 q0 q1, maxTime := of16 m0 m1, pairs := pairs })
      else none
    | none => none
  | _ => none

/-- A PLAN-ADD payload; a kind code that is none of the three has no length (R198). -/
def readPlan : List Byte → Option PlanBlock
  | [] => none
  | kind :: rest =>
    if 2 < kind.toNat then some (.other kind rest)
    else match rest with
      | m0 :: m1 :: block =>
        if kind.toNat = 0 then readCont (of16 m0 m1) block
        else if kind.toNat = 1 then readInsul (of16 m0 m1) block
        else readWatch (of16 m0 m1) block
      | _ => none

/-- A request with a payload, or a wrong length. -/
def sized (t : Byte) : Option Instr → Request
  | some i => .ok i
  | none => .badLength t

/-- The request of a frame's type and payload, with the FLK's own checks of type and length (R198, R206). -/
def decodeRequest (t : Byte) (p : List Byte) : Request :=
  match t.toNat with
  | 0x01 => bare .identify t p
  | 0x02 => bare .cards t p
  | 0x03 => sized t (match p with
    | [p0, p1, l0, l1, r] => some (.pointWrite (of16 p0 p1) (of16 l0 l1) r)
    | _ => none)
  | 0x04 => sized t (match p with
    | [p0, p1] => some (.pointRead (of16 p0 p1))
    | _ => none)
  | 0x05 => sized t (match p with
    | [all, i0, i1] => some (.netErase all (of16 i0 i1))
    | _ => none)
  | 0x06 => sized t (match p with
    | i0 :: i1 :: flag :: count :: rest =>
      (points16 rest).bind fun pts => if pts.length = count.toNat then some (.netWrite (of16 i0 i1) flag pts) else none
    | _ => none)
  | 0x07 => sized t (match p with
    | [i0, i1, piece] => some (.netRead (of16 i0 i1) piece)
    | _ => none)
  | 0x08 => bare .netSum t p
  | 0x09 => sized t (match p with
    | [r, o0, o1, g0, g1] => some (.calWrite r (of16 o0 o1) (of16 g0 g1))
    | _ => none)
  | 0x0A => bare .calRead t p
  | 0x0B => bare .planErase t p
  | 0x0C => sized t ((readPlan p).map Instr.planAdd)
  | 0x0D => sized t (match p with
    | [i] => some (.planRead i)
    | _ => none)
  | 0x0E => sized t (match p with
    | [a0, a1, a2, a3, a4, a5, a6, a7, a8, a9, a10, l0, l1] =>
      some (.actionsWrite [a0, a1, a2, a3, a4, a5, a6, a7, a8, a9, a10] (of16 l0 l1))
    | _ => none)
  | 0x0F => bare .startPlan t p
  | 0x10 => sized t (match p with
    | [r0, r1, r2, r3] => some (.startLearn (of32 r0 r1 r2 r3))
    | _ => none)
  | 0x11 => sized t (match p with
    | [r0, r1, l0, l1] => some (.startZero (of16 r0 r1) (of16 l0 l1))
    | _ => none)
  | 0x12 => bare .pause t p
  | 0x13 => bare .resume t p
  | 0x14 => bare .abort t p
  | 0x15 => bare .runRead t p
  | 0x16 => sized t (match p with
    | [a0, a1, b0, b1, r] => some (.probe (of16 a0 a1) (of16 b0 b1) r)
    | _ => none)
  | 0x17 => bare .defectTake t p
  | 0x18 => sized t (match p with
    | [on] => some (.streamSet on)
    | _ => none)
  | 0x19 => sized t (match p with
    | en :: baud :: tmo :: len :: title => if title.length = len.toNat then some (.printSet en baud tmo title) else none
    | _ => none)
  | 0x1A => bare .printCancel t p
  | 0x1B => bare .hvRelease t p
  | 0x1C => bare .safetyRead t p
  | 0x1D => sized t (match p with
    | [m] => some (.noticeSet m)
    | _ => none)
  | 0x1E => sized t (match p with
    | [sec] => some (.watchdogSet sec)
    | _ => none)
  | 0x1F => bare .resetWork t p
  | 0x20 => bare .resetAll t p
  | _ => .ok (.unknown t)

/-! ### Writing requests -/

/-- The bytes of a two-byte field. -/
def bytes16 (w : Word16) : List Byte := le16 w.toNat

/-- The bytes of a four-byte field. -/
def bytes32 (w : Word32) : List Byte := le32 w.toNat

/-- The payload of PLAN-ADD (R206). -/
def writePlan : PlanBlock → List Byte
  | .cont b =>
    [0#8] ++ bytes16 b.mask ++ bytes16 b.first ++ bytes16 b.last ++ [b.range, b.n] ++ bytes32 b.rgood ++ bytes32 b.ropen ++
    [b.shorts] ++ bytes32 b.rshort
  | .insul b =>
    [1#8] ++ bytes16 b.mask ++ bytes16 b.first ++ bytes16 b.last ++ bytes16 b.volts ++ bytes16 b.slew ++
    bytes16 b.dwell ++ bytes32 b.rmin ++ [b.n, b.arcThr, b.arcCount, b.tripLevel, b.tripDelay, b.localise]
  | .watch b =>
    [2#8] ++ bytes16 b.mask ++ [b.range] ++ bytes32 b.rgood ++ bytes32 b.ropen ++ [b.minBreak] ++ bytes16 b.quiet ++
    bytes16 b.maxTime ++ [BitVec.ofNat 8 b.pairs.length] ++ b.pairs.flatMap fun q => bytes16 q.1 ++ bytes16 q.2
  | .other kind rest => kind :: rest

/-- The type and payload of a request; none for a command that is no request (R206). -/
def encodeRequest : Instr → Option (Byte × List Byte)
  | .identify => some (0x01#8, [])
  | .cards => some (0x02#8, [])
  | .pointWrite p l r => some (0x03#8, bytes16 p ++ bytes16 l ++ [r])
  | .pointRead p => some (0x04#8, bytes16 p)
  | .netErase all id => some (0x05#8, all :: bytes16 id)
  | .netWrite id flag pts =>
    some (0x06#8, bytes16 id ++ [flag, BitVec.ofNat 8 pts.length] ++ pts.flatMap bytes16)
  | .netRead id piece => some (0x07#8, bytes16 id ++ [piece])
  | .netSum => some (0x08#8, [])
  | .calWrite r o g => some (0x09#8, r :: (bytes16 o ++ bytes16 g))
  | .calRead => some (0x0A#8, [])
  | .planErase => some (0x0B#8, [])
  | .planAdd b => some (0x0C#8, writePlan b)
  | .planRead i => some (0x0D#8, [i])
  | .actionsWrite acts limit => some (0x0E#8, acts ++ bytes16 limit)
  | .startPlan => some (0x0F#8, [])
  | .startLearn r => some (0x10#8, bytes32 r)
  | .startZero r lr => some (0x11#8, bytes16 r ++ bytes16 lr)
  | .pause => some (0x12#8, [])
  | .resume => some (0x13#8, [])
  | .abort => some (0x14#8, [])
  | .runRead => some (0x15#8, [])
  | .probe a b r => some (0x16#8, bytes16 a ++ bytes16 b ++ [r])
  | .defectTake => some (0x17#8, [])
  | .streamSet on => some (0x18#8, [on])
  | .printSet en baud tmo title => some (0x19#8, [en, baud, tmo, BitVec.ofNat 8 title.length] ++ title)
  | .printCancel => some (0x1A#8, [])
  | .hvRelease => some (0x1B#8, [])
  | .safetyRead => some (0x1C#8, [])
  | .noticeSet m => some (0x1D#8, [m])
  | .watchdogSet sec => some (0x1E#8, [sec])
  | .resetWork => some (0x1F#8, [])
  | .resetAll => some (0x20#8, [])
  | .unknown t => some (t, [])
  | .powerOn _ => none
  | .resetPin _ => none
  | .receivedByte _ => none
  | .interByteGapTimeout => none
  | .frameSent => none
  | .linkWatchdogExpiry => none
  | .scanDescriptor _ _ => none
  | .scanProbeTimeout => none
  | .batchRequest => none
  | .cardAcknowledge _ _ => none
  | .cardAckTimeout _ => none
  | .openPhaseWaitEnd => none
  | .closePhaseWaitEnd => none
  | .readbackReport _ _ _ => none
  | .readbackTimeout _ => none
  | .windowOpen => none
  | .settleTimeEnd => none
  | .sample _ => none
  | .insulationReading _ _ => none
  | .busMonitorReading _ => none
  | .energisationEnable => none
  | .rampTick => none
  | .rampCheck => none
  | .dwellTick => none
  | .dwellTimeOut => none
  | .fastReading _ => none
  | .dischargeFault => none
  | .guardOpen => none
  | .guardClose => none
  | .characterSent _ => none
  | .paperChange _ _ => none
  | .busyFall => none
  | .busyTimeout => none

/-! ### The assembler (R195, R196) -/

/-- What a received byte brings about. -/
inductive AsmResult where
  | none
  | discard
  | accept (type : Byte) (payload : List Byte)
  deriving DecidableEq, Repr

/-- The assembler takes one byte (R196). -/
def asmByte (a : Asm) (b : Byte) : Asm × AsmResult :=
  match a with
  | .hunt => (if b = 0xC3#8 then .length else .hunt, .none)
  | .length => if b.toNat = 0 ∨ 250 < b.toNat then (.hunt, .discard) else (.body b.toNat [], .none)
  | .body l got =>
    let got := got ++ [b]
    (if l ≤ got.length then .check l got else .body l got, .none)
  | .check l got =>
    if checkPasses l got b then
      match got with
      | t :: payload => (.hunt, .accept t payload)
      | [] => (.hunt, .discard)
    else (.hunt, .discard)

/-! ### The host's decoder -/

/-- The command a word spells: none, since spec/opcode_table.json gives no row any bits (notes/assumptions/33.md). -/
def decodeTableWord (_nbits _w : Nat) : Option Instr := none

end Sys2Proof
end

