-- ==== Sys2Proof/Machine/Link.lean ====
section
/-! DEFINITION. The frame link's transmit side (R199 to R201): notices, replies, the stream of defect records, the transmitter, and the discard count. -/

namespace Sys2Proof.Machine

/-! ### Notices (R199, R200) -/

/-- The notice type (R199). -/
def NoticeKind.type : NoticeKind → Byte
  | .defect => 0x80#8
  | .run => 0x81#8
  | .safety => 0x82#8
  | .printer => 0x83#8
  | .card => 0x84#8

/-- Whether a class of notices is on (R199). N-DEFECT is switched by the stream itself. -/
def Flk.classOn (f : Flk) : NoticeKind → Bool
  | .defect => true
  | .run => f.classRun
  | .safety => f.classSafety
  | .printer => f.classPrinter
  | .card => f.classCard

/-- Replace the queued instance of a kind in its place, or queue the notice last (R200). -/
def coalesce (n : Notice) (q : List Notice) : List Notice :=
  if q.any (fun m => m.kind == n.kind) then q.map fun m => if m.kind = n.kind then n else m else q ++ [n]

/-- Raise a coalescing notice: dropped while its class is off (R199, R200). -/
def raise (k : NoticeKind) (payload : List Byte) (s : State) : State :=
  if s.flk.classOn k then { s with flk.notices := coalesce { kind := k, payload := payload } s.flk.notices } else s

/-- N-RUN, with the run record as it stands (R106). -/
def raiseRun (s : State) : State := raise .run (nRunPayload s) s

/-- N-SAFETY, with the items of SAFETY-READ as they stand (R152). -/
def raiseSafety (s : State) : State := raise .safety (safetyPayload s) s

/-- N-PRINTER (R183). -/
def raisePrinter (s : State) : State := raise .printer (printerPayload s) s

/-- N-CARD (R25, R200). -/
def raiseCard (s : State) : State := raise .card (cardPayload s) s

/-! ### Replies (R197, R198) -/

/-- Place a reply in the reply place. -/
def place (f : Frame) (s : State) : State := { s with flk.reply := some f }

/-- Answer a request of this type. -/
def answer (type : Byte) (payload : List Byte) (s : State) : State := place (replyFrame type payload) s

/-- Refuse a request of this type; nothing else changes (R198). -/
def refuse (type : Byte) (c : RefusalCode) (s : State) : State := place (refusedFrame type c) s

/-! ### The stream (R176, R201) -/

/-- Mark the first record that satisfies `p` in stream, and give it. -/
def markStream : List Rec → Option (Rec × List Rec)
  | [] => none
  | r :: rs =>
    if r.host && !r.inStream then some (r, { r with inStream := true } :: rs)
    else match markStream rs with
      | some (x, rs') => some (x, r :: rs')
      | none => none

/-- Queue one N-DEFECT if streaming is on, fewer than three are queued and a notice place is free (R201). -/
def streamOne (s : State) : State :=
  let q := s.flk.notices
  if s.dlg.streaming && s.resetting.isNone && (q.filter fun n => n.kind == .defect).length < Config.streamPlaces
      && q.length < Config.noticePlaces then
    match markStream s.dlg.recs with
    | some (r, rs) =>
      { s with dlg.recs := rs, flk.notices := q ++ [{ kind := .defect, payload := r.bytes }] }
    | none => s
  else s

/-- Queue N-DEFECT notices as far as there is room (at most three, R201). -/
def streamFill (s : State) : State := streamOne (streamOne (streamOne s))

/-! ### The transmitter (R199) -/

/-- When the transmitter is free it takes the reply if one is queued, otherwise the oldest queued notice. Notices
raised during a reset wait for its end (R203). Beginning to send an N-CARD starts a fresh lost since set (R200). -/
def transmit (s : State) : State :=
  match s.flk.wire with
  | some _ => s
  | none =>
    match s.flk.reply with
    | some f => { s with flk.reply := none, flk.wire := some { frame := f, isReply := true, stream := false } }
    | none =>
      if s.resetting.isSome then s
      else match s.flk.notices with
        | [] => s
        | n :: q =>
          { s with
            flk.notices := q
            flk.wire := some { frame := { type := n.kind.type, payload := n.payload }, isReply := false,
                               stream := n.kind == .defect }
            flk.lostSince := if n.kind = .card then [] else s.flk.lostSince }

/-! ### Discards (R196) -/

/-- One more discard; the count saturates at 65535. -/
def discard (s : State) : State := { s with flk.discards := min 65535 (s.flk.discards + 1) }

end Sys2Proof.Machine
end

