-- ==== Sys2Proof/Machine/Shared.lean ====
section
/-! DEFINITION. What one block asks of another: batches of the MXC, windows of the MSU, the disable and discharge of the HVC, the safety record, the stop of an engine. -/

namespace Sys2Proof.Machine

/-- Give the engine at work something more to do, after what it has. -/
def later (acts : List Act) (s : State) : State := { s with todo := s.todo ++ acts }

/-- Give the engine at work something to do next, before what it has. -/
def next (acts : List Act) (s : State) : State := { s with todo := acts ++ s.todo }

/-! ### The matrix controller's request list (R9, R21) -/

/-- Hand the MXC a batch request; it is held and taken in arrival order (R9, BATCH_REQUEST). -/
def requestBatch (who : Requester) (run : Bool) (a b : List Nat) (s : State) : State :=
  { s with mxc.held := s.mxc.held ++ [{ a := a, b := b, run := run, who := who }] }

/-- Take a requester off the list of those who wait for the bus (R137). -/
def withdraw (w : Waiter) (s : State) : State := { s with hvc.waiters := s.hvc.waiters.filter fun x => x != w }

/-- The abort of a run reaches the MXC (R21). A held request made for the run goes, one made for no run stays; a batch
waiting for bus safe ends; a later one goes on, marked aborted. DESIGN CHOICE, notes/assumptions/41.md: a batch in flight
that was made for no run is left as it is, as a held one is. The settled events of those that end here reach an engine
that has been stopped, and carry no matrix fault. -/
def abortBatches (s : State) : State :=
  let s := { s with mxc.held := s.mxc.held.filter fun r => !r.run }
  match s.mxc.batch with
  | none => s
  | some b =>
    if !b.req.run then s
    else if b.phase = .busWait then withdraw .mxc { s with mxc.batch := none }
    else { s with mxc.batch := some { b with aborted := true } }

/-! ### The measurement unit's windows (R29, R32) -/

/-- Ask the MSU for a sample window; the request joins the list (R29, WINDOW_OPEN). -/
def requestWindow (w : WinReq) (s : State) : State := { s with msu.waiting := s.msu.waiting ++ [w] }

/-- Release a window: its gate closes and the sample under way is discarded; a request still waiting is withdrawn
(R29, R32). -/
def releaseWindow (o : Owner) (s : State) : State :=
  let first := match s.msu.waiting with
    | w :: _ => w.owner == o
    | [] => false
  let s := if s.msu.busWait && first then withdraw .msu { s with msu.busWait := false } else s
  { s with
    msu.waiting := s.msu.waiting.filter fun w => w.owner != o
    msu.window := match s.msu.window with
      | some w => if w.owner = o then none else some w
      | none => none }

/-! ### The high-voltage controller (R131, R135, R137, R152) -/

/-- The lamp: lit whenever the bus reads above 30 V or the source is enabled (R131). -/
def setLamp (s : State) : State :=
  { s with hvc.lamp := decide (Config.safeBus < s.hvc.bus) || s.hvc.sourceOn }

/-- The causes of the safety record (R129). -/
inductive Cause where
  | guard
  | trip
  | link
  | discharge
  deriving DecidableEq, Repr

def Safety.has (r : Safety) : Cause → Bool
  | .guard => r.guardOpened
  | .trip => r.trip
  | .link => r.linkLost
  | .discharge => r.dischargeFault

def Safety.add (r : Safety) : Cause → Safety
  | .guard => { r with guardOpened := true }
  | .trip => { r with trip := true }
  | .link => { r with linkLost := true }
  | .discharge => { r with dischargeFault := true }

/-- Add a cause to the safety record; a newly latched one raises N-SAFETY (R152). -/
def latchCause (c : Cause) (s : State) : State :=
  if s.hvc.safety.has c then s else raiseSafety { s with hvc.safety := s.hvc.safety.add c }

/-- The source goes off and DISCHARGE begins with a fresh timer (R135). -/
def enterDischarge (s : State) : State :=
  setLamp { s with
    hvc.state := .discharge
    hvc.setpoint := 0
    hvc.holding := false
    hvc.checking := false
    hvc.timer := true }

/-- High voltage is removed in RAMP or DWELL: the ISE receives *energisation removed* and drops its readings (R146). -/
def removeHv (s : State) : State :=
  let s := enterDischarge s
  { s with
    msu.reading := false
    ise := s.ise.map fun j => if j.verdict = .none then { j with removed := true } else j }

/-- The answer to a disable request (R137). -/
inductive BusAnswer where
  | safe
  | fault
  | wait
  deriving DecidableEq, Repr

/-- *Disable and discharge* (R137). -/
def disable (w : Waiter) (s : State) : BusAnswer × State :=
  let join (s : State) : State := { s with hvc.waiters := s.hvc.waiters ++ [w] }
  match s.hvc.state with
  | .off =>
    if s.hvc.bus ≤ Config.safeBus then (.safe, s)
    else if s.hvc.dischLatch then (.fault, s)
    else (.wait, join (enterDischarge s))
  | .ramp => (.wait, join (removeHv s))
  | .dwell => (.wait, join (removeHv s))
  | .discharge => (.wait, join s)

/-- The source is disabled and the bus reads at or below 30 V: no discharge need be asked for (R12, R29). -/
def State.busStill (s : State) : Bool := !s.hvc.sourceOn && decide (s.hvc.bus ≤ Config.safeBus)

/-! ### Engines -/

/-- The engine that has work in this run. -/
def State.engine (s : State) : Option EngineId :=
  if s.ise.isSome then some .ise else if s.wte.isSome then some .wte else if s.cte = .none then none else some .cte

/-- Stop the engine at work: its unit in flight, its windows, its step state and what it had still to do go; a reservation
ends; an energisation request still waiting to enable is withdrawn (R101, R125, R155, R167, R173; notes/assumptions/19.md).
A record of its own in the entry place still holds back its next permit, in a later run too (R173, R174). -/
def stopEngine (s : State) : State :=
  let s := releaseWindow .wte (releaseWindow .cte s)
  { s with
    cte := .none
    ise := none
    wte := none
    todo := []
    dlg.reserved := false
    msu.reading := false
    hvc.waitEnable := none
    rnc.unit := none
    rnc.waits := false
    rnc.struck := false }

end Sys2Proof.Machine
end

