-- ==== Sys2Proof/Machine/Run.lean ====
section
/-! DEFINITION. The run controller (chapter 5): hold set, end cause, ending; and with it the defect log's creation of records (R171, R173), which the run counts and acts on (R100). -/

namespace Sys2Proof.Machine

/-! ### The hold set (R98) -/

/-- Add a reason; one already in the set changes nothing. -/
def addHold (r : HoldReason) (s : State) : State :=
  if s.rnc.hold.has r then s else raiseRun { s with rnc.hold := s.rnc.hold.put true r }

/-- A parked engine, or a parked search, is at its asking point again (R54, R98). -/
def unpark (s : State) : State :=
  { s with
    gsu.state := if s.gsu.state = .parked then .asking else s.gsu.state
    cte := match s.cte with
      | .none => .none
      | .cont j => .cont { j with phase := if j.phase = .parked then .asking else j.phase }
      | .zero j => .zero { j with phase := if j.phase = .parked then .asking else j.phase }
      | .learn j => .learn { j with phase := if j.phase = .parked then .asking else j.phase }
    ise := s.ise.map fun j => { j with phase := if j.phase = .parked then .asking else j.phase }
    wte := s.wte.map fun j => { j with phase := if j.phase = .parked then .asking else j.phase } }

/-- The return to RUNNING: the clock runs again, N-RUN, and a *continue* to the engine that waits for a permit, which asks
again (R98). -/
def continueRun (s : State) : State :=
  let s := raiseRun { s with rnc.state := .running }
  if s.rnc.waits then later [.ask] (unpark { s with rnc.waits := false }) else s

/-- Remove reasons, as far as they are in the set; when HELD and the set has become empty the run goes on (R98). -/
def removeHold (rs : List HoldReason) (s : State) : State :=
  let h := s.rnc.hold.remove rs
  if h = s.rnc.hold then s
  else
    let s := raiseRun { s with rnc.hold := h }
    if s.rnc.state = .held && h.isEmpty then continueRun s else s

/-- Entry to HELD: the run clock stops, N-RUN (R97). -/
def enterHeld (s : State) : State := raiseRun { s with rnc.state := .held }

/-! ### Ending (R101, R104) -/

/-- Entry to ENDING: N-RUN, and the teardown batch is requested with the run flag clear (R104). -/
def enterEnding (s : State) : State :=
  requestBatch .teardown false [] [] (raiseRun { s with rnc.state := .ending })

/-- A discharge fault met while closing out overrides the earlier cause (R104). -/
def overrideFault (s : State) : State :=
  { s with rnc.verdict := .aborted, rnc.reason := .dischargeFault }

/-- The end cause of a run (R101): the first that reaches a run in RUNNING or HELD that is not closing out. -/
def endCause (v : Verdict) (why : EndReason) (s : State) : State :=
  if !s.live then s
  else
    let s1 := { s with rnc.verdict := v, rnc.reason := why }
    let s2 := if s1.rnc.hold.isEmpty then s1 else raiseRun { s1 with rnc.hold := .empty }
    let s3 := if s2.rnc.state = .held then raiseRun { s2 with rnc.state := .running } else s2
    let s4 := abortBatches (stopEngine { s3 with gsu := .idle })
    match disable .rnc s4 with
    | (.safe, t) => enterEnding t
    | (.fault, t) => enterEnding (overrideFault t)
    | (.wait, t) => t

/-- A completed run (R96): PASS if it created no record, FAIL otherwise. -/
def completeRun (s : State) : State :=
  endCause (if s.rnc.total = 0 then .pass else .fail) .completed s

/-! ### Records (R100, R171, R173) -/

/-- Whether the run of this number holds a summary slot (R171). -/
def holdsSlot (run : Nat) (s : State) : Bool := s.pre.slots.any fun t => t.runNo == run

/-- The record a draft becomes when it is the run's record number `seq` (R169, R171). -/
def makeRec (d : Draft) (seq : Nat) (s : State) : Rec :=
  { run := s.rnc.runNo, seq := seq, kind := d.kind, step := s.rnc.step, a := d.a, netA := s.netOf d.a, b := d.b,
    netB := (d.b.map s.netOf).getD 0, value := d.value, bound := d.bound, second := d.second, range := d.range,
    time := s.rnc.clock, host := true, print := holdsSlot s.rnc.runNo s, inStream := false, inPrint := false }

/-- Slots free for any use: a reserved slot is not (R173). -/
def Dlg.freeSlots (d : Dlg) : Nat := Config.logSlots - d.recs.length - (if d.reserved then 1 else 0)

/-- A record enters the log (R173): the unit's first record takes the reserved slot, a later one a free slot, and one that
finds none stands in the entry place while its engine holds back. -/
def enterLog (r : Rec) (s : State) : State :=
  if s.dlg.reserved then { s with dlg.reserved := false, dlg.recs := s.dlg.recs ++ [r] }
  else if s.dlg.entry.isNone && 0 < s.dlg.freeSlots then { s with dlg.recs := s.dlg.recs ++ [r] }
  else { s with dlg.entry := some r, dlg.heldBack := s.engine }

/-- Count a record of this kind (R100, step 1). -/
def countRec (k : DefectKind) (s : State) : State :=
  { s with
    rnc.total := s.rnc.total + 1
    rnc.counts := s.rnc.counts.set k.idx (s.rnc.counts.get k.idx + 1) k.idx.isLt }

/-- Records are created only while the run is RUNNING and not closing out (R100). -/
def State.recordable (s : State) : Bool := s.rnc.state == .running && s.rnc.verdict == .none

/-- Count a record and enter it in the log (R100 step 1, R171). -/
def putRecord (d : Draft) (s : State) : State :=
  let t := countRec d.kind s
  enterLog (makeRec d t.rnc.total s) t

/-- The action of a kind (R92). -/
def actionOf (k : DefectKind) (s : State) : Action := s.rnc.actions.get k.idx

/-- A defect record is created for the run: counted, entered, and then the limit or its action applies (R100). -/
def createRecord (d : Draft) (s : State) : State :=
  if !s.recordable then s
  else
    let t := putRecord d s
    let act := actionOf d.kind s
    if t.rnc.total = t.rnc.limit then
      if act = .abort then endCause .aborted .defectAbort t else endCause .fail .limit t
    else match act with
      | .log => t
      | .hold => addHold (if d.kind = .trip then .tripLatched else .operator) t
      | .abort => endCause .aborted .defectAbort t

/-- The records of an event that carries its own end cause (R100): created as far as the limit allows, and up to one that
has to wait in the entry place; their actions and the limit do not change the cause. DESIGN CHOICE, notes/assumptions/49.md: while an
earlier record stands there the event's records are dropped, and the cause is taken at once. -/
def createOwn : List Draft → State → State
  | [], s => s
  | d :: ds, s =>
    if !s.recordable || s.rnc.total = s.rnc.limit || s.dlg.entry.isSome then s
    else createOwn ds (putRecord d s)

/-- The records of an event in their order, each with its action, as far as the limit allows (R100), up to one that has to
wait in the entry place. -/
def createRecords : List Draft → State → State
  | [], s => s
  | d :: ds, s =>
    if s.rnc.total = s.rnc.limit || s.dlg.entry.isSome then s else createRecords ds (createRecord d s)

/-! ### The permit (R97) -/

inductive PermitAnswer where
  | grant
  | park
  | stop
  deriving DecidableEq, Repr

/-- The boundary checks of R97, each adding its reason to the hold set. A permit's check finds no free slot while the entry
place is occupied (R174). -/
def boundaryChecks (k : UnitKind) (s : State) : State :=
  let s := if s.dlg.entry.isSome || s.dlg.freeSlots = 0 then addHold .logFull s else s
  if k = .low then s
  else
    let s := if s.hvc.tripLatch then addHold .tripLatched s else s
    let s := if s.hvc.guardClosed then s else addHold .guard s
    if s.hvc.linkExpired then addHold .linkLost s else s

/-- An engine asks for a permit (R97). Its reservation ends first (R173). -/
def permit (k : UnitKind) (s : State) : PermitAnswer × State :=
  let s := { s with dlg.reserved := false, rnc.unit := none }
  if !s.live then (.stop, s)
  else if s.rnc.state = .held then (.park, { s with rnc.waits := true })
  else
    let s := boundaryChecks k s
    if s.rnc.hold.isEmpty then (.grant, { s with dlg.reserved := true, rnc.unit := some k })
    else (.park, enterHeld { s with rnc.waits := true })

/-! ### Slots that free (R174, R178) -/

/-- Records whose second mark has been cleared leave; a record in the entry place takes the slot and its engine goes on;
if a slot is still free the log reports it, and the run controller removes LOG_FULL (R102, R172 to R174). -/
def sweep (s : State) : State :=
  let keep := s.dlg.recs.filter fun r => r.host || r.print
  if keep.length = s.dlg.recs.length then s
  else
    let s := { s with dlg.recs := keep }
    let s := match s.dlg.entry with
      | some r =>
        if 0 < s.dlg.freeSlots then
          { s with dlg.recs := keep ++ [r], dlg.entry := none, dlg.heldBack := none }
        else s
      | none => s
    if s.dlg.entry.isNone && 0 < s.dlg.freeSlots then removeHold [.logFull] s else s

/-- Clear every print mark, that of a record in the entry place and of the record in print included (R178). -/
def clearPrintMarks (s : State) : State :=
  let clear (r : Rec) : Rec := { r with print := false, inPrint := false }
  sweep { s with dlg.recs := s.dlg.recs.map clear, dlg.entry := s.dlg.entry.map clear }

/-- Clear the host mark of the oldest record in stream: its N-DEFECT has been sent (R176). -/
def clearStreamed : List Rec → List Rec
  | [] => []
  | r :: rs => if r.inStream then { r with host := false, inStream := false } :: rs else r :: clearStreamed rs

/-- The oldest record whose host mark is set and that is not in stream, with its mark cleared (R175). -/
def takeHost : List Rec → Option (Rec × List Rec)
  | [] => none
  | r :: rs =>
    if r.host && !r.inStream then some (r, { r with host := false } :: rs)
    else match takeHost rs with
      | some (x, rs') => some (x, r :: rs')
      | none => none

/-- The oldest print-marked record of a run, marked in print (R177). -/
def takePrint (run : Nat) : List Rec → Option (Rec × List Rec)
  | [] => none
  | r :: rs =>
    if r.print && r.run == run then some (r, { r with inPrint := true } :: rs)
    else match takePrint run rs with
      | some (x, rs') => some (x, r :: rs')
      | none => none

end Sys2Proof.Machine
end

