-- ==== Sys2Proof/Machine/Search.lean ====
section
/-! DEFINITION. The group search unit (chapter 3). -/

namespace Sys2Proof.Machine

/-- The points of an interval (R51). -/
def Gsu.points (g : Gsu) (iv : Nat × Nat) : List Nat := (g.cands.drop iv.1).take (iv.2 - iv.1)

/-- Take the next interval and ask the caller whether a unit may begin (R54); with none left the search has ended (R60). -/
def searchTake (s : State) : State :=
  match s.gsu.stack with
  | iv :: rest => next [.ask] { s with gsu.cur := some iv, gsu.stack := rest, gsu.state := .asking }
  | [] => next [.searchEnded .exhausted s.gsu.found] { s with gsu := .idle }

/-- A caller starts a search (R53). -/
def searchStart (c : Caller) (cands driven : List Nat) (s : State) : State :=
  if s.gsu.state ≠ .idle then next [.searchEnded .refused 0] s
  else if cands = [] then next [.searchEnded .exhausted 0] s
  else searchTake { s with
    gsu := { state := .asking, caller := c, driven := driven, cands := cands, stack := [(0, cands.length)],
             cur := none, found := 0 } }

/-- PROCEED: the GSU requests the batch of the current interval (R54, R55). -/
def searchProceed (s : State) : State :=
  match s.gsu.state, s.gsu.cur with
  | .asking, some iv =>
    requestBatch .gsu true s.gsu.driven (s.gsu.points iv) { s with gsu.state := .connecting }
  | _, _ => s

/-- PARK (R54, R62). -/
def searchPark (s : State) : State :=
  if s.gsu.state = .asking then { s with gsu.state := .parked } else s

/-- The event's excluded list shows every driven point excluded from A (R65). -/
def undriven (driven : List Nat) (excl : List Excl) : Bool :=
  driven.all fun p => excl.any fun e => e.point == p && e.side == .a

/-- The GSU goes on after a settled event has been handed to the caller (R55, R65). -/
def searchSettled (ok noDrive : Bool) (s : State) : State :=
  if s.gsu.state ≠ .connecting then s
  else if !ok then { s with gsu.state := .parked }
  else if noDrive then next [.searchEnded .noDrive s.gsu.found] { s with gsu := .idle }
  else next [match s.gsu.caller with
    | .cte => .window
    | .ise => .energise] { s with gsu.state := .measuring }

/-- The predicate's answer (R56 to R59, R63, R64). -/
def searchAnswer (a : Answer3) (s : State) : State :=
  match s.gsu.state, s.gsu.cur with
  | .measuring, some (lo, hi) =>
    match a with
    | .negative => searchTake { s with gsu.cur := none }
    | .positive m =>
      if hi - lo ≤ 1 then
        next [.found (s.gsu.cands.getD lo 0) lo m, .searchNext]
          { s with gsu.found := s.gsu.found + 1, gsu.cur := none }
      else
        let mid := lo + (hi - lo) / 2
        searchTake { s with gsu.stack := (lo, mid) :: (mid, hi) :: s.gsu.stack, gsu.cur := none }
    | .notMeasured => next [.ask] { s with gsu.state := .asking }
    | .abandon => next [.searchEnded .abandoned s.gsu.found] { s with gsu := .idle }
  | _, _ => s

end Sys2Proof.Machine
end

