-- ==== Sys2Proof/Machine/Continuity.lean ====
section
/-! DEFINITION. The continuity engine: CONT steps (chapter 6), and the walks of ZERO and LEARN runs (sections 4.6, 4.7). -/

namespace Sys2Proof.Machine

/-! ### UNTEST records (R115) -/

/-- The reason word of a point's present state (R115). DESIGN CHOICE, notes/assumptions/40.md: of a point both absent and
quarantined it is ABSENT. -/
def untestReason (p : Nat) (s : State) : UntestReason :=
  if !s.present p then .absent
  else match s.quar p with
    | .readback => .readback
    | .cardLost => .cardLost
    | .none => .alone

/-- An UNTEST record of the CTE or ISE: the point, its reason, no point b (R115, R170). -/
def untestDraft (p : Nat) (s : State) : Draft :=
  { kind := .untest, a := p, b := none, value := some (untestReason p s).code, bound := .none, second := none,
    range := none }

/-- The MATRIX record of a matrix fault: the failed point, or the first point of the card (R20, R170). -/
def faultDraft (f : MFault) : Draft :=
  { kind := .matrix,
    a := match f with
      | .noClose p => p
      | .stuck k => k * Config.channels
      | .lost k => k * Config.channels,
    b := none, value := some f.code, bound := .none, second := none, range := none }

/-- The points for which this step, or LEARN run, has created an UNTEST record (R108, R140, R84). -/
def State.reported (s : State) : List Nat :=
  match s.ise with
  | some j => j.reported
  | none => match s.cte with
    | .cont j => j.reported
    | .learn j => j.reported
    | _ => []

/-- A point joins the reported set. -/
def report (p : Nat) (s : State) : State :=
  match s.ise with
  | some j => { s with ise := some { j with reported := j.reported ++ [p] } }
  | none => match s.cte with
    | .cont j => { s with cte := .cont { j with reported := j.reported ++ [p] } }
    | .learn j => { s with cte := .learn { j with reported := j.reported ++ [p] } }
    | _ => s

/-- Create a point's UNTEST record, at most once in a step (R115). -/
def reportUntest (p : Nat) (s : State) : State :=
  if s.reported.contains p then s else createRecord (untestDraft p s) (report p s)

/-! ### Steps (R96) -/

/-- Hand the plan's current step to its engine, whose state for the step is built fresh (R96, R109, R140, R158). DESIGN
CHOICE, notes/assumptions/38.md: with an empty net list the cursor that RUN-READ reports is 0. -/
def startStep (s : State) : State :=
  match s.rnc.plan[s.rnc.step]? with
  | some (.cont p) =>
    let nets := s.testableIn p.first p.last
    let net := nets.headD 0
    next [.decide] { s with
      rnc.cursor := net
      cte := .cont { p := p, nets := nets, net := net, stage := .start, nominal := 0, anchor := 0, cursor := 0,
                     recOnly := false, reported := [], filter := .fresh, phase := .idle } }
  | some (.insul p) =>
    let nets := s.testableIn p.first p.last
    let net := nets.headD 0
    next [.decide] { s with
      rnc.cursor := net
      ise := some { p := p, nets := nets, net := net, cands := [], anchor := 0, verdict := .none,
                    meas := { value := 0, bound := .none, range := 0 },
                    unitMeas := { value := 0, bound := .none, range := 0 }, leak := .ir0, low := 0, discard := false,
                    reported := [], stage := .start, phase := .idle, removed := false, timedOut := false } }
  | some (.watch p) =>
    next [.decide] { s with
      rnc.cursor := 0
      wte := some { p := p, pairs := p.pairs.map fun q => { a := q.1, b := q.2, state := .unknown, count := 0, brk := none },
                    cursor := 0, quiet := (s.rnc.clock + p.quiet * 1000) % clockMod,
                    maxDead := (s.rnc.clock + p.maxTime * 1000) % clockMod, stage := .sampling, recOnly := false,
                    phase := .idle } }
  | none => completeRun s

/-- Step done: the next step, or the run completes (R96; the step index of the last step stays, notes/assumptions/32.md). -/
def stepDone (s : State) : State :=
  let s := { s with cte := .none, ise := none, wte := none }
  if s.rnc.step + 1 < s.rnc.plan.length then startStep { s with rnc.step := s.rnc.step + 1 } else completeRun s

/-! ### The CONT step (R109 to R127) -/

def setCont (j : ContJob) (s : State) : State := { s with cte := .cont j }

/-- The net is finished: the next net of the list, or step done (R109, R127). -/
def contNextNet (j : ContJob) (s : State) : State :=
  match j.nets.find? fun n => j.net < n with
  | some n =>
    next [.decide] (setCont { j with net := n, stage := .start, phase := .idle } { s with rnc.cursor := n })
  | none => stepDone s

/-- The CTE, in IDLE, decides its next unit (R110, R111, R118, R119). -/
def contDecide (j : ContJob) (s : State) : State :=
  let ms := s.members j.net
  match j.stage with
  | .start =>
    if j.nets = [] then stepDone s
    else
      let us := ms.filter s.usable
      if 2 ≤ us.length then
        next [.decide] (setCont
          { j with stage := .pairs, nominal := ms.headD 0, anchor := us.headD 0, cursor := ms.headD 0 } s)
      else
        next [.decide] (setCont
          { j with stage := .records (ms.filter fun m => !j.reported.contains m), nominal := ms.headD 0 } s)
  | .pairs =>
    match ms.find? fun m => j.cursor ≤ m && m != j.anchor && !j.reported.contains m with
    | some m => next [.ask] (setCont { j with cursor := m, recOnly := !s.usable m, phase := .asking } s)
    | none =>
      if j.p.shorts then
        searchStart .cte (s.candidates j.net) [j.anchor] (setCont { j with stage := .shorts, phase := .searching } s)
      else contNextNet j s
  | .records [] => contNextNet j s
  | .records (_ :: _) => next [.ask] (setCont { j with phase := .asking } s)
  | .shorts => contNextNet j s

/-- GRANT (R112, R113, R119). -/
def contGranted (j : ContJob) (s : State) : State :=
  match j.stage with
  | .records (p :: ps) => next [.untest p, .decide] (setCont { j with stage := .records ps, phase := .idle } s)
  | .records [] => next [.decide] (setCont { j with phase := .idle } s)
  | .pairs =>
    if j.recOnly then
      next [.untest j.cursor, .decide] (setCont { j with cursor := j.cursor + 1, phase := .idle } s)
    else requestBatch .cte true [j.anchor] [j.cursor] (setCont { j with phase := .connecting } s)
  | .shorts => searchProceed s
  | .start => s

/-- The rest of a pair unit's settled event, after its records: a lost anchor (R117), a lost member (R116), or the
measurement (R114). -/
def pairSettled (anchorLost memberLost : Bool) (j : ContJob) (s : State) : State :=
  let ms := s.members j.net
  let cursor := if memberLost then j.cursor + 1 else j.cursor
  if anchorLost then
    let us := ms.filter s.usable
    if 2 ≤ us.length then
      next [.decide] (setCont { j with anchor := us.headD 0, cursor := cursor, phase := .idle } s)
    else
      let rest := ms.filter fun m => j.cursor ≤ m && m != j.anchor && !j.reported.contains m
      next [.decide] (setCont { j with stage := .records rest, cursor := cursor, phase := .idle } s)
  else if memberLost then next [.decide] (setCont { j with cursor := cursor, phase := .idle } s)
  else next [.window] (setCont { j with phase := .measuring, filter := .fresh } s)

/-- A record of a measured pair (R114, R170). -/
def pairDraft (k : DefectKind) (a b : Nat) (m : Meas) : Draft :=
  { kind := k, a := a, b := some b, value := some m.value, bound := m.bound, second := none, range := some m.range }

/-- The record of a pair verdict (R114); `none` is UNSTABLE. -/
def verdictKind : Option SampleClass → Option DefectKind
  | none => some .unstbl
  | some .good => none
  | some .high => some .highR
  | some _ => some .opn

/-- A pair verdict is applied (R114). -/
def contVerdict (v : Option SampleClass) (m : Meas) (j : ContJob) (s : State) : State :=
  let recs := match verdictKind v with
    | some k => [Act.record (pairDraft k j.anchor j.cursor m)]
    | none => []
  next (recs ++ [.decide]) (setCont { j with cursor := j.cursor + 1, phase := .idle } s)

/-! ### The ZERO run (R78 to R80) -/

def setZero (j : ZeroJob) (s : State) : State := { s with cte := .zero j }

/-- The walk: the next point that is measured, or the walk is complete (R78). -/
def zeroDecide (j : ZeroJob) (s : State) : State :=
  match s.presentPoints.find? fun p => j.cursor ≤ p && p != j.r && s.quar p == .none with
  | some p => next [.ask] (setZero { j with cursor := p, phase := .asking } { s with rnc.cursor := p })
  | none => completeRun { s with rnc.cursor := Config.points }

def zeroGranted (j : ZeroJob) (s : State) : State :=
  requestBatch .cte true [j.r] [j.cursor] (setZero { j with phase := .connecting } s)

/-- The rest of a zeroing unit's settled event (R80). -/
def zeroSettled (refLost pointLost : Bool) (j : ZeroJob) (s : State) : State :=
  if refLost then completeRun s
  else if pointLost then next [.decide] (setZero { j with cursor := j.cursor + 1, phase := .idle } s)
  else next [.window] (setZero { j with phase := .measuring, filter := .fresh } s)

/-- The verdict of a zeroing unit: the lead value is stored, or an OPEN record is created (R79). -/
def zeroVerdict (v : Option SampleClass) (r : Option Nat) (m : Meas) (j : ZeroJob) (s : State) : State :=
  let s := setZero { j with cursor := j.cursor + 1, phase := .idle } s
  match v, r with
  | some .good, some raw =>
    next [.decide] { s with nst.leads := s.nst.leads.set 0 j.cursor (clamp 0 65535 (raw - j.lr)) }
  | _, _ => next [.record (pairDraft .opn j.cursor j.r m), .decide] s

/-! ### The LEARN run (R82 to R84) -/

def setLearn (j : LearnJob) (s : State) : State := { s with cte := .learn j }

/-- The walk: the next learnable point and its search, or the walk is complete (R82). -/
def learnDecide (j : LearnJob) (s : State) : State :=
  match s.presentPoints.find? fun p => j.cursor ≤ p && s.quar p == .none && s.netOf p == 0 with
  | some p =>
    searchStart .cte (s.learnCandidates p) [p]
      (setLearn { j with cursor := p, net := none, phase := .searching } { s with rnc.cursor := p })
  | none => completeRun { s with rnc.cursor := Config.points }

/-- A found event assigns the found point at once (R83). -/
def learnFound (q : Nat) (j : LearnJob) (s : State) : State :=
  match j.net with
  | some id => { s with nst.nets := s.nst.nets.set [] id (insertAsc q (s.members id)) }
  | none =>
    if s.nst.nets.length < Config.nets then
      setLearn { j with net := some j.nextId, nextId := j.nextId + 1 }
        { s with nst.nets := s.nst.nets.set [] j.nextId (sortAsc [j.cursor, q]) }
    else endCause .aborted .netTableFull s

/-! ### What the CTE measures (R114, R120, R78, R49) -/

/-- The CTE opens its sample window (R114, R78, R120, R49). -/
def cteWindow (s : State) : State :=
  match s.cte with
  | .cont j => match j.stage with
    | .shorts =>
      requestWindow { owner := .cte, range := .cr2, la := some j.anchor, lb := none } (setCont { j with filter := .fresh } s)
    | _ =>
      requestWindow { owner := .cte, range := j.p.range.first, la := some j.anchor, lb := some j.cursor } s
  | .zero _ => requestWindow { owner := .cte, range := .cr0, la := none, lb := none } s
  | .learn j =>
    requestWindow { owner := .cte, range := .cr2, la := some j.cursor, lb := none } (setLearn { j with filter := .fresh } s)
  | .none => s

/-- The window changes range: its sample under way is discarded and it settles again (R31). -/
def changeRange (r : CRange) (s : State) : State :=
  { s with
    msu.contRange := r
    msu.window := s.msu.window.map fun w => { w with sampling := false } }

/-- A group sample is counted (R49): the answer when the result is formed. -/
def groupStep (f : Filter) (threshold n : Nat) (r : Option Nat) (range : CRange) : Filter × Option Answer3 :=
  let f := f.count1 (groupClass threshold r)
  match f.says n with
  | .agreed .isolated => (f, some .negative)
  | .agreed _ => (f, some (.positive (measOf range r)))
  | .unstable => (f, some (.positive (measOf range r)))
  | .more => (f, none)

/-- The GSU's predicate CONDUCT takes a sample (R49, R120). -/
def groupSample (f : Filter) (threshold n : Nat) (r : Option Nat) (store : Filter → State → State) (s : State) : State :=
  if s.gsu.state ≠ .measuring then s
  else
    let (f, ans) := groupStep f threshold n r s.msu.contRange
    let s := store f s
    match ans with
    | some a => later [.searchAnswer a] (releaseWindow .cte s)
    | none => s

/-- A sample is delivered to the CTE (R47 to R49, R114, R78, R120). -/
def cteSample (r : Option Nat) (s : State) : State :=
  let range := s.msu.contRange
  match s.cte with
  | .none => s
  | .cont j =>
    if j.stage = .shorts then groupSample j.filter j.p.rshort j.p.n r (fun f => setCont { j with filter := f }) s
    else if j.phase ≠ .measuring then s
    else match (if j.p.range = .auto && r.isNone then range.up else none) with
      | some up => changeRange up (setCont { j with filter := .fresh } s)
      | none =>
        let f := j.filter.count1 (pairClass j.p.rgood j.p.ropen r)
        let j := { j with filter := f }
        match f.says j.p.n with
        | .agreed c => contVerdict (some c) (measOf range r) j (releaseWindow .cte s)
        | .unstable => contVerdict none (measOf range r) j (releaseWindow .cte s)
        | .more => setCont j s
  | .zero j =>
    if j.phase ≠ .measuring then s
    else
      let f := j.filter.count1 (pairClass CRange.cr0.fullScale CRange.cr0.fullScale r)
      let j := { j with filter := f }
      match f.says 4 with
      | .agreed c => zeroVerdict (some c) r (measOf range r) j (releaseWindow .cte s)
      | .unstable => zeroVerdict none r (measOf range r) j (releaseWindow .cte s)
      | .more => setZero j s
  | .learn j => groupSample j.filter j.rlearn 2 r (fun f => setLearn { j with filter := f }) s

/-- The CTE's window ended, or its opening ended UNSAFE: the unit is repeated from its permit (R126, R80, R84). -/
def cteWindowLost (s : State) : State :=
  match s.cte with
  | .none => s
  | .cont j =>
    if j.stage = .shorts then later [.searchAnswer .notMeasured] s
    else if j.phase = .measuring then later [.ask] (setCont { j with phase := .asking } s)
    else s
  | .zero j => if j.phase = .measuring then later [.ask] (setZero { j with phase := .asking } s) else s
  | .learn _ => later [.searchAnswer .notMeasured] s

/-! ### The CTE's answers to the run controller and the GSU -/

def cteDecide (s : State) : State :=
  match s.cte with
  | .none => s
  | .cont j => contDecide j s
  | .zero j => zeroDecide j s
  | .learn j => learnDecide j s

def cteGranted (s : State) : State :=
  match s.cte with
  | .none => s
  | .cont j => contGranted j s
  | .zero j => zeroGranted j s
  | .learn _ => searchProceed s

/-- PARK: the CTE, or its search, waits (R112, R62). -/
def cteParked (s : State) : State :=
  match s.cte with
  | .none => s
  | .cont j => if j.stage = .shorts then searchPark s else setCont { j with phase := .parked } s
  | .zero j => setZero { j with phase := .parked } s
  | .learn _ => searchPark s

/-- A found event reaches the CTE (R122, R83). -/
def cteFound (q : Nat) (m : Meas) (s : State) : State :=
  match s.cte with
  | .cont j => next [.record (pairDraft .short j.anchor q m)] s
  | .learn j => learnFound q j s
  | _ => s

/-- A search ended event reaches the CTE (R123, R82, R84). -/
def cteSearchEnded (s : State) : State :=
  match s.cte with
  | .cont j => contNextNet { j with phase := .idle } s
  | .learn j => next [.decide] (setLearn { j with cursor := j.cursor + 1, net := none, phase := .idle } s)
  | _ => s

end Sys2Proof.Machine
end

