-- ==== Sys2Proof/Machine/Insulation.lean ====
section
/-! DEFINITION. The insulation engine (sections 7.4, 7.5): INSUL steps, their units and localisation. -/

namespace Sys2Proof.Machine

def setIse (j : InsulJob) (s : State) : State := { s with ise := some j }

/-- The records of an INSUL step: record anchor, no point b unless given, the step voltage as second value
(R136, R145, R149). -/
def insulDraft (k : DefectKind) (b : Option Nat) (value : Nat) (bound : Bound) (range : Option Nat) (j : InsulJob) : Draft :=
  { kind := k, a := j.anchor, b := b, value := some value, bound := bound, second := some j.p.volts, range := range }

/-- A LOW_IR record (R145, R149). -/
def lowIrDraft (b : Option Nat) (m : Meas) (j : InsulJob) : Draft :=
  insulDraft .lowIr b m.value m.bound (some m.range) j

/-- The DISCHG record of a discharge fault that ends an energisation (R136). -/
def dischgDraft (j : InsulJob) : Draft := insulDraft .dischg none timeoutCode .none none j

/-! ### Units (R140 to R143) -/

/-- The net is finished: the cursor moves on, or step done (R140, R145, R155). -/
def insulNextNet (j : InsulJob) (s : State) : State :=
  match j.nets.find? fun n => j.net < n with
  | some n => next [.decide] (setIse { j with net := n, stage := .start, phase := .idle } { s with rnc.cursor := n })
  | none => stepDone s

/-- The ISE, in IDLE, decides its next unit (R140, R141, R149). -/
def insulDecide (j : InsulJob) (s : State) : State :=
  match j.stage with
  | .start =>
    if j.nets = [] then stepDone s
    else
      let cands := s.candidates j.net
      let ms := s.members j.net
      if cands = [] then insulNextNet j s
      else if ms.any s.usable then
        next [.ask] (setIse { j with stage := .unit, cands := cands, phase := .asking } s)
      else
        next [.decide] (setIse
          { j with stage := .records (ms.filter fun m => !j.reported.contains m), cands := cands } s)
  | .records [] => insulNextNet j s
  | .records (_ :: _) => next [.ask] (setIse { j with phase := .asking } s)
  | .unit => next [.ask] (setIse { j with phase := .asking } s)
  | .netRecord => next [.ask] (setIse { j with phase := .asking } s)
  | .localise => s

/-- The permit an INSUL step asks for: record-only units raise no voltage (R141, R149). -/
def insulKind (j : InsulJob) : UnitKind :=
  match j.stage with
  | .unit => .insulation
  | .localise => .insulation
  | _ => .low

/-- GRANT (R141, R142, R147, R149). -/
def insulGranted (j : InsulJob) (s : State) : State :=
  match j.stage with
  | .records (p :: ps) => next [.untest p, .decide] (setIse { j with stage := .records ps, phase := .idle } s)
  | .records [] => next [.decide] (setIse { j with phase := .idle } s)
  | .unit => requestBatch .ise true (s.members j.net) j.cands (setIse { j with phase := .connecting } s)
  | .localise => searchProceed s
  | .netRecord =>
    next [.record (lowIrDraft none j.unitMeas j), .decide] (setIse { j with stage := .records [], phase := .idle } s)
  | .start => s

/-- PARK (R142, R147). -/
def insulParked (j : InsulJob) (s : State) : State :=
  if j.stage = .localise then searchPark s else setIse { j with phase := .parked } s

/-- The rest of a unit's settled event, after its records: the record anchor, and the energisation (R142). -/
def insulSettled (j : InsulJob) (s : State) : State :=
  match (s.members j.net).find? fun m => s.conn m == .a with
  | some a => next [.energise] (setIse { j with anchor := a, phase := .energising } s)
  | none => insulNextNet j s

/-- The HVC refused the energisation: the unit is asked for again (R143), or the GSU is told (R148). -/
def insulRefused (j : InsulJob) (s : State) : State :=
  match j.stage with
  | .localise => next [.searchAnswer .notMeasured] s
  | .unit => next [.ask] (setIse { j with phase := .asking } s)
  | _ => s

/-- The energisation request of the step, with the probe dwell in localisation (R130, R147). -/
def energOf (j : InsulJob) : Energ :=
  { target := j.p.volts * 1000, slew := j.p.slew,
    dwell := if j.stage = .localise then min j.p.dwell 200 else j.p.dwell,
    tripLevel := j.p.tripLevel * 1000000, arcThr := j.p.arcThr * 1000000, tripDelay := j.p.tripDelay,
    arcLimit := j.p.arcCount }

/-- The job as an energisation is asked for: no verdict, no readings (R143, R146). -/
def freshUnit (j : InsulJob) : InsulJob :=
  { j with verdict := .none, meas := { value := 0, bound := .none, range := 0 }, leak := .ir0, low := 0,
           discard := false, removed := false, timedOut := false }

/-! ### Readings and verdicts (R143 to R145) -/

/-- Ask the MSU for one insulation reading on a range (R34). -/
def requestReading (r : LRange) (s : State) : State := { s with msu.leakRange := r, msu.reading := true }

/-- Fix a LOW_IR verdict: with localise off its record is created (R145); the ISE answers END (R135). -/
def fixLowIr (m : Meas) (j : InsulJob) (s : State) : State :=
  let j := { j with verdict := .lowIr, meas := m }
  let acts := if j.p.localise then [] else [Act.record (lowIrDraft none m j)]
  later acts (enterDischarge (setIse j s))

/-- Dwell time out without a verdict: pass, and END (R144). -/
def fixPass (j : InsulJob) (s : State) : State := enterDischarge (setIse { j with verdict := .pass } s)

/-- The reading of the ramp check (R143): CONTINUE into DWELL, whose first tick takes a reading at once (R134), or
LOW_IR and END. -/
def rampReading (v : Nat) (rd : Reading) (j : InsulJob) (s : State) : State :=
  let s := { s with hvc.checking := false }
  if s.hvc.energ.target * 9 ≤ v * 10 then
    let j := { j with leak := .ir0, low := 0, discard := false }
    requestReading .ir0 (setIse j { s with hvc.state := .dwell, hvc.dwellClock := 0 })
  else
    match rd with
    | .value k b _ => fixLowIr { value := k, bound := b, range := LRange.ir0.index } j s
    | .over => s

/-- The effect of a dwell reading on discard, range and LOW count, and whether it makes the verdict LOW_IR (R144). -/
def applyReading (rd : Reading) (j : InsulJob) : InsulJob × Option Meas :=
  if j.discard then ({ j with discard := false }, none)
  else match rd with
    | .over => ({ j with leak := j.leak.coarser, discard := true }, none)
    | .value k b k2 =>
      let low := if isLow k j.p.rmin then j.low + 1 else 0
      let finer := match k2 with
        | some c => decide (c < 5000) && j.leak != .ir2
        | none => false
      let j' := { j with low := low, leak := if finer then j.leak.finer else j.leak, discard := finer }
      (j', if j.p.n ≤ low then some { value := k, bound := b, range := j.leak.index } else none)

/-- A dwell reading (R144); one under way at the dwell time out is applied before END. -/
def dwellReading (rd : Reading) (j : InsulJob) (s : State) : State :=
  match applyReading rd j with
  | (j', some m) => fixLowIr m j' s
  | (j', none) => if j'.timedOut then fixPass j' s else setIse j' s

/-- An insulation reading reaches the ISE; one after the verdict is dropped (R145). -/
def insulReadingIn (v : Nat) (rd : Reading) (j : InsulJob) (s : State) : State :=
  if j.verdict ≠ .none then s
  else match s.hvc.state with
    | .ramp => if s.hvc.checking then rampReading v rd j s else s
    | .dwell => dwellReading rd j s
    | _ => s

/-- A trip report reaches the ISE (R145, R148). -/
def insulTrip (s : State) : State :=
  match s.ise with
  | some j =>
    if j.verdict ≠ .none then s
    else
      let j := { j with verdict := .trip }
      later [.record (insulDraft .trip none s.hvc.energPeak .none none j)]
        (setIse j { s with msu.reading := false })
  | none => s

/-- An arc limit report reaches the ISE (R145, R148). -/
def insulArc (s : State) : State :=
  match s.ise with
  | some j =>
    if j.verdict ≠ .none then s
    else
      let j := { j with verdict := .arc }
      later [.record (insulDraft .arc none s.hvc.arcCount .none none j)]
        (setIse j { s with msu.reading := false })
  | none => s

/-! ### The end of an energisation, and localisation (R145 to R149) -/

/-- Start localisation (R147). -/
def startLocalise (j : InsulJob) (s : State) : State :=
  let cands := s.candidates j.net
  let driven := (s.members j.net).filter s.usable
  let s := setIse { j with cands := cands, unitMeas := j.meas, stage := .localise, phase := .localising } s
  if driven = [] then next [.searchEnded .noDrive 0] s else searchStart .ise cands driven s

/-- The GSU's answer at the bus safe that ends a probe (R148). -/
def probeAnswer (j : InsulJob) : Answer3 :=
  match j.verdict with
  | .lowIr => .positive j.meas
  | .pass => .negative
  | .trip => .abandon
  | .arc => .abandon
  | .none => .notMeasured

/-- Bus safe has ended the energisation (R145, R146, R148). -/
def insulSafe (j : InsulJob) (s : State) : State :=
  match j.stage with
  | .localise => next [.searchAnswer (probeAnswer j)] s
  | .unit =>
    match j.verdict with
    | .none => next [.ask] (setIse { j with phase := .asking } s)
    | .lowIr => if j.p.localise then startLocalise j s else insulNextNet j s
    | _ => insulNextNet j s
  | _ => s

/-- A found event reaches the ISE (R149). -/
def insulFound (q : Nat) (m : Meas) (j : InsulJob) (s : State) : State := next [.record (lowIrDraft (some q) m j)] s

/-- A search ended event reaches the ISE (R149). -/
def insulSearchEnded (e : SearchEnd) (found : Nat) (j : InsulJob) (s : State) : State :=
  if e ≠ .abandoned ∧ found = 0 then next [.decide] (setIse { j with stage := .netRecord, phase := .idle } s)
  else insulNextNet j s

end Sys2Proof.Machine
end

