-- ==== Sys2Proof/Machine/Watch.lean ====
section
/-! DEFINITION. The watch engine (chapter 8). -/

namespace Sys2Proof.Machine

def setWte (j : WatchJob) (s : State) : State := { s with wte := some j }

/-- The pair at the cursor (R157). -/
def WatchJob.pair (j : WatchJob) : PairRec :=
  j.pairs.getD j.cursor { a := 0, b := 0, state := .untestable, count := 0, brk := none }

/-- Replace the record of the pair at the cursor. -/
def WatchJob.setPair (j : WatchJob) (p : PairRec) : WatchJob := { j with pairs := j.pairs.set j.cursor p }

/-- The indices of all pairs in rotation, from index `i` on (R159). -/
def rotation (k i : Nat) : List Nat := (List.range k).map fun d => (i + d) % k

/-- The next pair, from index `i` on in rotation, that is not UNTESTABLE (R159, decision 2). -/
def WatchJob.nextIndex (j : WatchJob) (i : Nat) : Option Nat :=
  (rotation j.pairs.length i).find? fun k =>
    match j.pairs[k]? with
    | some p => p.state != .untestable
    | none => false

/-- Move the cursor; RUN-READ reports it (R157, R106). -/
def moveCursor (i : Nat) (j : WatchJob) (s : State) : State := setWte { j with cursor := i } { s with rnc.cursor := i }

/-- The unit is complete, its record made: the cursor moves to the next index, wrapping, and the WTE decides (R159). -/
def advance (j : WatchJob) (s : State) : State :=
  next [.decide] (moveCursor ((j.cursor + 1) % j.pairs.length) { j with phase := .idle } s)

/-- The stage becomes CLOSING: the window is released and the pairs are visited in index order (R166). -/
def beginClosing (j : WatchJob) (s : State) : State :=
  next [.decide] (setWte { j with stage := .closing (List.range j.pairs.length), phase := .idle } (releaseWindow .wte s))

/-- Whether the pairs in BREAK among those still to be visited leave one; the visit skips the others (R166). -/
def WatchJob.toClose (j : WatchJob) (rest : List Nat) : List Nat :=
  rest.filter fun i => match j.pairs[i]? with
    | some p => p.state == .brk
    | none => false

/-- The WTE, in IDLE, decides (R159, R166). In CLOSING the cursor is the pair visited (R157); DEDUCED,
notes/assumptions/39.md: at the step's end it stands at the last pair. DESIGN CHOICE, notes/assumptions/47.md: a window
kept from the visit before is released when the pair to visit is unusable. -/
def watchDecide (j : WatchJob) (s : State) : State :=
  match j.stage with
  | .sampling =>
    if reached s.rnc.clock j.quiet || reached s.rnc.clock j.maxDead then beginClosing j s
    else match j.nextIndex j.cursor with
      | none => beginClosing j s
      | some i =>
        let j := { j with cursor := i }
        let p := j.pair
        let usable := s.usable p.a && s.usable p.b
        let s := if usable then s else releaseWindow .wte s
        next [.ask] (moveCursor i { j with recOnly := !usable, phase := .asking } s)
  | .closing rest =>
    match j.toClose rest with
    | [] => stepDone (match rest.getLast? with
      | some k => moveCursor k j s
      | none => s)
    | i :: _ =>
      next [.ask] (moveCursor i { j with stage := .closing (i :: (rest.dropWhile fun k => k ≤ i)), phase := .asking } s)

/-- The OPEN record of a pair still broken at step end (R166). -/
def closingDraft (j : WatchJob) (p : PairRec) : Draft :=
  let m := match p.brk with
    | some (_, .value r) => measOf j.p.range (some r)
    | _ => measOf j.p.range none
  pairDraft .opn p.a p.b m

/-- GRANT (R160, R165, R166). -/
def watchGranted (j : WatchJob) (s : State) : State :=
  match j.stage with
  | .sampling =>
    if j.recOnly then next [.pairUntest, .watchAdvance] s
    else requestBatch .wte true [j.pair.a] [j.pair.b] (setWte { j with phase := .connecting } s)
  | .closing [] => next [.decide] s
  | .closing (i :: is) =>
    match j.pairs[i]? with
    | some p =>
      next [.record (closingDraft j p), .decide] (setWte { j with stage := .closing is, phase := .idle } s)
    | none => next [.decide] (setWte { j with stage := .closing is, phase := .idle } s)

/-- PARK: the window is released (R167). -/
def watchParked (j : WatchJob) (s : State) : State := setWte { j with phase := .parked } (releaseWindow .wte s)

/-- The window on a pair (R160). -/
def watchWindowReq (j : WatchJob) : WinReq :=
  { owner := .wte, range := j.p.range, la := some j.pair.a, lb := some j.pair.b }

/-- The WTE owns an open window. -/
def State.wteWindow (s : State) : Bool :=
  match s.msu.window with
  | some w => w.owner == .wte
  | none => false

/-- The rest of a sample unit's settled event (R160, R165). DESIGN CHOICE, notes/assumptions/47.md: one that excludes a point
of the pair releases a kept window. -/
def watchSettled (bad : Bool) (j : WatchJob) (s : State) : State :=
  if bad then next [.pairUntest, .watchAdvance] (releaseWindow .wte s)
  else
    let s := setWte { j with phase := .measuring } s
    if s.wteWindow then s else next [.window] s

/-- The UNTEST record of the pair at the cursor; the pair becomes UNTESTABLE (R165). DESIGN CHOICE,
notes/assumptions/47.md: a window kept for the pair is released. -/
def pairUntest (j : WatchJob) (s : State) : State :=
  let p := j.pair
  let lo := min p.a p.b
  let hi := max p.a p.b
  let u := if s.usable lo then hi else lo
  let other := if u = p.a then p.b else p.a
  let j := j.setPair { p with state := .untestable, count := 0, brk := none }
  let s := setWte { j with phase := .idle } (releaseWindow .wte s)
  createRecord { untestDraft u s with b := some other } s

/-! ### Samples (R161 to R164) -/

/-- The INTMIT record of a restore (R163). -/
def intmitDraft (range : CRange) (p : PairRec) (start : Nat) (peak : Peak) (clock : Nat) : Draft :=
  { kind := .intmit, a := p.a, b := some p.b, value := some ((clock + clockMod - start) % clockMod),
    bound := match peak with
      | .value _ => .none
      | .over => .atLeastSecond,
    second := some (match peak with
      | .value r => r
      | .over => range.fullScale),
    range := some range.index }

/-- A sample applied to a pair record: the record after it, whether the quiet deadline is reloaded, and an INTMIT
(R162, R163). -/
def applyWatch (w : WatchParams) (clock : Nat) (r : Option Nat) (p : PairRec) : PairRec × Bool × Option Draft :=
  let healed := { p with state := .good, count := 0, brk := none }
  match watchClass w.rgood w.ropen r with
  | .between => (p, false, none)
  | .good =>
    match p.state, p.brk with
    | .brk, some (start, peak) => (healed, true, some (intmitDraft w.range p start peak clock))
    | .brk, none => (healed, true, none)
    | _, _ => (healed, false, none)
  | .brk =>
    let brk := match p.brk with
      | none => some (clock, Peak.ofSample r)
      | some (start, peak) => some (start, peak.raise r)
    if p.state = .brk then ({ p with brk := brk }, false, none)
    else
      let count := p.count + 1
      if w.minBreak ≤ count then ({ p with state := .brk, count := count, brk := brk }, true, none)
      else ({ p with count := count, brk := brk }, false, none)

/-- A sample is delivered to the WTE (R160 to R164). -/
def wteSample (r : Option Nat) (s : State) : State :=
  match s.wte with
  | some j =>
    if j.phase ≠ .measuring then s
    else
      let old := j.pair
      let (p, reload, rec) := applyWatch j.p s.rnc.clock r old
      let j := j.setPair p
      let j := if reload then { j with quiet := (s.rnc.clock + j.p.quiet * 1000) % clockMod } else j
      let keep := match j.nextIndex ((j.cursor + 1) % j.pairs.length) with
        | some k => match j.pairs[k]? with
          | some q => q.a == old.a && q.b == old.b
          | none => false
        | none => false
      let s := if keep then s else releaseWindow .wte s
      let acts := match rec with
        | some d => [Act.record d]
        | none => []
      next (acts ++ [.watchAdvance]) (setWte { j with phase := .idle } s)
  | none => s

/-- The WTE's window ended, or its opening ended UNSAFE: the unit is repeated (R167). -/
def wteWindowLost (s : State) : State :=
  match s.wte with
  | some j => if j.phase = .measuring then later [.ask] (setWte { j with phase := .asking } s) else s
  | none => s

end Sys2Proof.Machine
end

