-- ==== Sys2Proof/Machine/Probe.lean ====
section
/-! DEFINITION. PROBE (R205): its two batches, its window and its reply. -/

namespace Sys2Proof.Machine

/-- Step 1: the batch with a on A and b on B. -/
def probeStart (a b : Nat) (sel : RangeSel) (s : State) : State :=
  requestBatch .probeOn false [a] [b]
    { s with probe := some { a := a, b := b, sel := sel, result := .ok, reading := none } }

/-- Step 4: the window is released and a batch with every point OPEN is asked for. -/
def probeOff (p : Probe) (s : State) : State :=
  requestBatch .probeOff false [] [] (releaseWindow .probe { s with probe := some p })

/-- The first batch has settled: the window (step 2), or the result that ends PROBE. -/
def probeSettled (res : BatchResult) (excl : List Excl) (s : State) : State :=
  match s.probe with
  | none => s
  | some p =>
    match res with
    | .stuck => probeOff { p with result := .stuck } s
    | .frozen => probeOff { p with result := .frozen } s
    | .aborted => probeOff { p with result := .frozen } s
    | .ok =>
      if excl.any fun e => e.point == p.a || e.point == p.b then probeOff { p with result := .excluded } s
      else requestWindow { owner := .probe, range := p.sel.first, la := some p.a, lb := some p.b } s

/-- Step 3: the first counted sample is the verdict's value, N being 1; AUTO steps up over an OVER (R48). -/
def probeSample (r : Option Nat) (raw : Word16) (s : State) : State :=
  match s.probe with
  | none => s
  | some p =>
    let range := s.msu.contRange
    match (if p.sel = .auto && r.isNone then range.up else none) with
    | some up => changeRange up s
    | none => probeOff { p with reading := some (r, range, raw) } s

/-- The window's opening ended UNSAFE; a window forced shut is taken so too (notes/assumptions/25.md). -/
def probeWindowLost (s : State) : State :=
  match s.probe with
  | none => s
  | some p => probeOff { p with result := .unsafeBus } s

/-- Step 5: the second batch has settled, whatever its result: the reply (R205). -/
def probeDone (s : State) : State :=
  match s.probe with
  | none => s
  | some p => answer 0x16#8 (probePayload p s.free) { s with probe := none, free := s.free + 1 }

end Sys2Proof.Machine
end

