-- ==== Sys2Proof/Machine/Measure.lean ====
section
/-! DEFINITION. The measurement unit's sample window and readings (section 2.2), and the commands that act on it. -/

namespace Sys2Proof.Machine

/-- *Window ended*, or an opening that ended UNSAFE, reaches the owner (R29, R33). -/
def windowLost (o : Owner) (s : State) : State :=
  match o with
  | .cte => cteWindowLost s
  | .wte => wteWindowLost s
  | .probe => probeWindowLost s

/-- The gate is forced shut (R33): the window ends and its owner is told; nothing when the gate is closed. -/
def closeGate (s : State) : State :=
  match s.msu.window with
  | some w => windowLost w.owner { s with msu.window := none }
  | none => s

/-- Open the window of the first waiting request (R29, steps 1 to 3). -/
def openFirst (s : State) : State :=
  match s.msu.waiting with
  | [] => s
  | w :: ws =>
    { s with
      msu.contRange := w.range
      msu.waiting := ws
      msu.busWait := false
      msu.window := some { owner := w.owner, la := w.la, lb := w.lb, sampling := false } }

/-- The opening of the first waiting request ends UNSAFE (R29). -/
def windowUnsafe (s : State) : State :=
  match s.msu.waiting with
  | [] => { s with msu.busWait := false }
  | w :: ws => windowLost w.owner { s with msu.waiting := ws, msu.busWait := false }

/-- Bus safe reaches the MSU: the window opens, or waits for the matrix (R29, R13). -/
def windowSafe (s : State) : State :=
  let s := { s with msu.busWait := false }
  if s.moving || s.msu.window.isSome then s else openFirst s

/-- WINDOW_OPEN: the first waiting request is taken when no window is open and the matrix is not moving; the bus is made
safe first (R29, R13). -/
def windowTake (s : State) : State :=
  if s.msu.waiting = [] || s.msu.window.isSome || s.msu.busWait || s.moving then s
  else if s.busStill then openFirst s
  else
    match disable .msu s with
    | (.safe, t) => openFirst t
    | (.fault, t) => windowUnsafe t
    | (.wait, t) => { t with msu.busWait := true }

/-- SETTLE_TIME_END: SETTLING becomes SAMPLING (R29, R31). -/
def settleEnd (s : State) : State :=
  { s with msu.window := s.msu.window.map fun w => { w with sampling := true } }

/-- The lead an owner named: none stands for 0 (R42). -/
def State.leadOf (s : State) (p : Option Nat) : Nat :=
  match p with
  | some p => s.lead p
  | none => 0

/-- SAMPLE: a completed sample is delivered to the window's owner (R30, R39 to R42). -/
def sampleIn (raw : Word16) (s : State) : State :=
  match s.msu.window with
  | some w =>
    if w.sampling then
      let r := resistance s.msu.cal s.msu.contRange raw (s.leadOf w.la) (s.leadOf w.lb)
      match w.owner with
      | .cte => cteSample r s
      | .wte => wteSample r s
      | .probe => probeSample r raw s
    else s
  | none => s

/-- INSULATION_READING: the reading under way completes and reaches the ISE (R34, R43). -/
def insulationIn (leak hvm : Word16) (s : State) : State :=
  if s.msu.reading then
    let (v, rd) := insulReading s.msu.cal s.msu.leakRange leak hvm
    let s := { s with msu.reading := false }
    match s.ise with
    | some j => insulReadingIn v rd j s
    | none => s
  else s

end Sys2Proof.Machine
end

