-- ==== Sys2Proof/Machine/Print.lean ====
section
/-! DEFINITION. The print engine (chapter 10): line texts, the decision what to send, the character boundary, cancel, disable, and the summary slots. -/

namespace Sys2Proof.Machine

/-! ### Texts (R187 to R190) -/

/-- Decimal digits, the most significant first, at most `fuel` of them. -/
def digitsAux : Nat → Nat → List Byte → List Byte
  | 0, _, acc => acc
  | f + 1, n, acc =>
    let acc := BitVec.ofNat 8 (48 + n % 10) :: acc
    if n < 10 then acc else digitsAux f (n / 10) acc

/-- A number without leading zeros. -/
def decimal (n : Nat) : List Byte := digitsAux 20 n []

/-- A number with leading zeros, at least `w` digits. -/
def zeroPad (w n : Nat) : List Byte :=
  let d := decimal n
  List.replicate (w - d.length) 48#8 ++ d

def blanks (n : Nat) : List Byte := List.replicate n 32#8

/-- A text padded with blanks on the right. -/
def padRight (w : Nat) (t : List Byte) : List Byte := t ++ blanks (w - t.length)

/-- CR LF. -/
def crlf : List Byte := [13#8, 10#8]

def kindText : RunKind → List Byte
  | .plan => ascii "PLAN"
  | .learn => ascii "LEARN"
  | .zero => ascii "ZERO"

def DefectKind.text : DefectKind → List Byte
  | .opn => ascii "OPEN"
  | .highR => ascii "HIGH_R"
  | .unstbl => ascii "UNSTBL"
  | .short => ascii "SHORT"
  | .lowIr => ascii "LOW_IR"
  | .arc => ascii "ARC"
  | .trip => ascii "TRIP"
  | .intmit => ascii "INTMIT"
  | .untest => ascii "UNTEST"
  | .matrix => ascii "MATRIX"
  | .dischg => ascii "DISCHG"

/-- "P" and four digits (00_scope.md, Conventions). -/
def pointText (p : Nat) : List Byte := ascii "P" ++ zeroPad 4 p

/-- The first header line (R187). -/
def headerText (t : Slot) : List Byte :=
  ascii "RUN " ++ zeroPad 5 t.runNo ++ blanks 2 ++ kindText t.kind ++ blanks 2 ++ ascii "NETS " ++ zeroPad 4 t.nets

/-- The step word (R188). -/
def stepWord (t : Slot) (step : Nat) : List Byte :=
  match t.kind with
  | .plan => match t.steps[step]? with
    | some .cont => ascii "CONT"
    | some (.insul v) => ascii "INSUL " ++ decimal v ++ ascii "V"
    | some .watch => ascii "WATCH"
    | none => []
  | .learn => ascii "LEARN"
  | .zero => ascii "ZERO"

/-- The step line (R188). -/
def stepText (t : Slot) (step : Nat) : List Byte := ascii "-- STEP " ++ zeroPad 2 step ++ blanks 1 ++ stepWord t step

/-- The reason word of an UNTEST, MATRIX or DISCHG record (R170, R189). -/
def reasonText (k : DefectKind) (v : Nat) : List Byte :=
  match k, v with
  | .untest, 0 => ascii "ABSENT"
  | .untest, 1 => ascii "READBACK"
  | .untest, 2 => ascii "CARD_LOST"
  | .untest, _ => ascii "ALONE"
  | .matrix, 0 => ascii "NO_CLOSE"
  | .matrix, 1 => ascii "STUCK"
  | .matrix, _ => ascii "LOST"
  | _, _ => ascii "TIMEOUT"

/-- The value field (R189). -/
def valueText (r : Rec) : List Byte :=
  let v := r.value.getD 0
  let ohms := (if r.bound = .atLeast then ascii ">" else []) ++ decimal (v / 1000) ++ ascii "." ++
    zeroPad 3 (v % 1000) ++ ascii " OHM"
  match r.kind with
  | .opn => ohms
  | .highR => ohms
  | .unstbl => ohms
  | .short => ohms
  | .lowIr =>
    (if r.bound = .atLeast then ascii ">" else if r.bound = .atMost then ascii "<" else []) ++
    decimal (v / 1000) ++ ascii "." ++ decimal (v % 1000 / 100) ++ ascii "M"
  | .trip => decimal (v / 1000000) ++ ascii "." ++ zeroPad 3 (v % 1000000 / 1000) ++ ascii "UA"
  | .arc => ascii "x" ++ decimal v
  | .intmit => decimal v ++ ascii "MS"
  | .untest => reasonText .untest v
  | .matrix => reasonText .matrix v
  | .dischg => reasonText .dischg v

/-- The defect line (R188). -/
def defectText (r : Rec) : List Byte :=
  zeroPad 5 r.seq ++ blanks 1 ++ padRight 6 r.kind.text ++ blanks 1 ++
  (match r.b with
    | some b => pointText r.a ++ ascii "-" ++ pointText b
    | none => pointText r.a ++ blanks 6) ++ blanks 1 ++ valueText r

def verdictText : Verdict → List Byte
  | .pass => ascii "PASS"
  | .fail => ascii "FAIL"
  | .aborted => ascii "ABORT"
  | .none => []

/-- One entry of the footer's counts (R190). -/
def countText (k : DefectKind) (n : Nat) : List Byte := padRight 6 k.text ++ blanks 1 ++ zeroPad 5 n

/-- Two entries to a line (R190). -/
def pairUp : List (List Byte) → List (List Byte)
  | [] => []
  | [x] => [x]
  | x :: y :: rest => (x ++ blanks 2 ++ y) :: pairUp rest

/-- The footer's lines (R190). -/
def footerLines (e : RunEnd) : List (List Byte) :=
  (ascii "DEFECTS " ++ zeroPad 5 e.total ++ blanks 2 ++ verdictText e.verdict) ::
  pairUp ((allKinds.filter fun k => e.counts.get k.idx != 0).map fun k => countText k (e.counts.get k.idx))

/-! ### States and lines (R181 to R183) -/

/-- A change of state raises N-PRINTER (R183). -/
def setPre (st : PreState) (s : State) : State :=
  if s.pre.state = st then s else raisePrinter { s with pre.state := st }

/-- A disable takes effect (R191). -/
def disableNow (s : State) : State :=
  let s := clearPrintMarks { s with pre.line := none, pre.inPrint := none, pre.busyTimer := false }
  setPre .disabled { s with pre.slots := [], pre.enable := false, pre.disPending := false }

/-- STALLED or NO_PAPER is entered: a disable held pending takes effect at once (R191). -/
def haltedOr (st : PreState) (s : State) : State :=
  let s := setPre st { s with pre.busyTimer := false }
  if s.pre.disPending then disableNow s else s

/-- The character boundary (R182): PAPER, then BUSY, then the next character goes on the wire. -/
def boundary (s : State) : State :=
  match s.pre.line, s.pre.onWire with
  | some l, none =>
    match l.rest with
    | [] => s
    | c :: rest =>
      if !s.pre.paper then haltedOr .noPaper s
      else if s.pre.busy then setPre .printing { s with pre.busyTimer := s.pre.timeout != 0 }
      else
        let s := setPre .printing s
        { s with
          pre.busyTimer := false
          pre.onWire := some c
          pre.line := some { l with rest := rest, sent := l.sent + 1 } }
  | _, _ => s

/-- Begin a line: it is formed whole, the baud rate in force is its own, and its first character looks at the inputs (R181,
R182, R191). -/
def beginLine (k : LineKind) (slot : Nat) (text : List Byte) (s : State) : State :=
  boundary (setPre .printing { s with pre.line := some { rest := text ++ crlf, sent := 0, kind := k, slot := slot, baud := s.pre.baud } })

/-- The number of a run's records still print-marked, the entry place included (R177). -/
def runMarked (run : Nat) (s : State) : Nat :=
  ((s.dlg.recs ++ s.dlg.entry.toList).filter fun r => r.print && r.run == run).length

/-- What to send next (R186); the line buffer is empty. -/
def decidePrint (s : State) : State :=
  match s.pre.slots with
  | [] => setPre .idle s
  | t :: _ =>
    if !t.header then beginLine .headerRun t.number (headerText t) s
    else match takePrint t.runNo s.dlg.recs with
      | some (r, recs) =>
        let s := { s with dlg.recs := recs, pre.inPrint := some r }
        if t.lastStep = some r.step then beginLine .defect t.number (defectText r) s
        else beginLine .step t.number (stepText t r.step) s
      | none =>
        match t.ended with
        | some e =>
          if runMarked t.runNo s = 0 then beginLine (.footer 0) t.number ((footerLines e).headD []) s
          else setPre .idle s
        | none => setPre .idle s

/-- The print engine wakes from IDLE when something may have changed (R186); asked at the end of every command. -/
def wakePrint (s : State) : State := if s.pre.state = .idle then decidePrint s else s

/-- Change the current slot, the one claimed first (R186). -/
def withSlot (f : Slot → Slot) (s : State) : State :=
  { s with pre.slots := match s.pre.slots with
    | [] => []
    | t :: ts => f t :: ts }

/-- The header's last line has ended (R187). -/
def headerDone (s : State) : State := decidePrint (withSlot (fun t => { t with header := true }) s)

/-- Clear the print mark of the record in print: its line is complete (R177). -/
def printTaken (s : State) : State :=
  sweep { s with
    pre.inPrint := none
    dlg.recs := s.dlg.recs.map fun r => if r.inPrint then { r with print := false, inPrint := false } else r }

/-- What follows the end of a line of the current slot (R186 to R190). DESIGN CHOICE, notes/assumptions/42.md: the title goes
out as stored, with the blanks it may end in. -/
def afterLine (k : LineKind) (s : State) : State :=
  match s.pre.slots with
  | [] => setPre .idle s
  | t :: ts =>
    match k with
    | .headerRun =>
      if t.title ≠ [] then beginLine .headerTitle t.number t.title s
      else if t.uncal then beginLine .headerUncal t.number (ascii "UNCALIBRATED") s
      else headerDone s
    | .headerTitle =>
      if t.uncal then beginLine .headerUncal t.number (ascii "UNCALIBRATED") s else headerDone s
    | .headerUncal => headerDone s
    | .step =>
      match s.pre.inPrint with
      | some r => beginLine .defect t.number (defectText r) (withSlot (fun t => { t with lastStep := some r.step }) s)
      | none => decidePrint s
    | .defect => decidePrint (printTaken s)
    | .footer i =>
      match (t.ended.map footerLines).getD [] |>.drop (i + 1) with
      | text :: _ => beginLine (.footer (i + 1)) t.number text s
      | [] => decidePrint { s with pre.slots := ts }
    | .crlf => setPre .idle s

/-- A line's effect on the log and its slot when a pending disable takes its place afterwards (R191). -/
def endOnly (k : LineKind) (s : State) : State := if k = .defect then printTaken s else s

/-- A line has ended: its LF has been sent (R181). -/
def lineEnded (l : Line) (s : State) : State :=
  let s := { s with pre.line := none }
  if s.pre.disPending then disableNow (endOnly l.kind s) else afterLine l.kind s

/-! ### Slots (R184, R185) -/

/-- The word of a step in the slot's step table (R184). -/
def PlanStep.word : PlanStep → StepWord
  | .cont _ => .cont
  | .insul p => .insul p.volts
  | .watch _ => .watch

/-- Claim a free slot for the run just started: slot 0 if it is free, slot 1 otherwise (R184). -/
def claimSlot (k : RunKind) (uncal : Bool) (s : State) : State :=
  let number := if s.pre.slots.any (fun t => t.number == 0) then 1 else 0
  { s with pre.slots := s.pre.slots ++
      [{ number := number, runNo := s.rnc.runNo, kind := k, title := s.pre.title, nets := s.nst.nets.length,
         uncal := uncal, steps := if k = .plan then s.rnc.plan.map PlanStep.word else [], header := false,
         ended := none, lastStep := none }] }

/-- The run's end is handed to the PRE: its slot is marked ended (R185). -/
def slotEnded (s : State) : State :=
  let e : RunEnd := { verdict := s.rnc.verdict, reason := s.rnc.reason, counts := s.rnc.counts, total := s.rnc.total }
  { s with pre.slots := s.pre.slots.map fun t => if t.runNo = s.rnc.runNo then { t with ended := some e } else t }

/-- The teardown has settled: the run is ENDED (R105). -/
def runEnded (s : State) : State :=
  let s := slotEnded s
  raiseRun { s with rnc.state := .ended }

/-! ### Cancel and settings (R191, R192) -/

/-- Once a cancelled line is dealt with: IDLE, or DISABLED if a disable was pending (R192). -/
def cancelDone (s : State) : State :=
  if s.pre.disPending then disableNow s
  else setPre .idle { s with pre.line := none, pre.busyTimer := false }

/-- PRINT-CANCEL outside DISABLED (R192). A line of which a character has begun gets a closing CR LF; a second cancel drops
a closing CR LF of which no character is on the wire (notes/assumptions/24.md). DESIGN CHOICE, notes/assumptions/48.md: the
closing CR LF goes on with the wait on BUSY of the character it replaces, its timer as it stands. -/
def cancelPrint (s : State) : State :=
  let s := clearPrintMarks { s with pre.inPrint := none }
  let s := { s with pre.slots := [] }
  match s.pre.line with
  | none => cancelDone s
  | some l =>
    if l.kind = .crlf then
      if s.pre.onWire.isNone || l.sent = 0 then cancelDone s else s
    else if 0 < l.sent then
      { s with pre.line := some { rest := crlf, sent := 0, kind := .crlf, slot := l.slot, baud := l.baud } }
    else cancelDone s

/-- PRINT-SET's enable flag (R191). -/
def setEnable (on : Bool) (s : State) : State :=
  match on, s.pre.state with
  | true, .disabled => setPre .idle { s with pre.enable := true }
  | true, _ => { s with pre.disPending := false }
  | false, .disabled => s
  | false, .printing => { s with pre.disPending := true }
  | false, _ => disableNow s

end Sys2Proof.Machine
end

