-- ==== Sys2Proof/Machine/Matrix.lean ====
section
/-! DEFINITION. The matrix controller (chapter 1): the card scan, and relay batches from their exclusions to their settled event. -/

namespace Sys2Proof.Machine

/-! ### The end of a reset (R203, R107, R183) -/

/-- The reset is complete: the reply; then the N-RUN that reports IDLE, the notices held during the reset, and N-PRINTER
(R203, R107, R183). No N-RUN at power-on or on the RESET pin (R107). -/
def resetComplete (s : State) : State :=
  match s.resetting with
  | none => s
  | some r =>
    let s := { s with resetting := none }
    let byRequest := r.kind == .all || r.kind == .work
    let s := match r.kind with
      | .work => answer 0x1F#8 [] s
      | .all => answer 0x20#8 [] s
      | _ => s
    let s := if byRequest && r.leftRun && s.flk.classRun then
        { s with flk.notices := { kind := .run, payload := nRunPayload s } :: s.flk.notices }
      else s
    if r.preChanged then raisePrinter s else s

/-! ### The card scan (R2, R3, R23 to R25) -/

/-- The reset batch is asked for, before anything else (R23, R24). -/
def requestReset (s : State) : State :=
  { s with mxc.held := { a := [], b := [], run := false, who := .reset } :: s.mxc.held }

/-- Record a card's points with one quarantine. -/
def quarantineCard (slot : Nat) (q : Quar) (s : State) : State :=
  { s with mxc.quar := s.mxc.quar.setAll .none (cardPoints slot) q }

/-- Record a card's points OPEN. -/
def openCard (slot : Nat) (s : State) : State :=
  { s with mxc.conn := s.mxc.conn.setAll .opn (cardPoints slot) .opn }

/-- Clear CARD_LOST on the points of a slot the scan made PRESENT (R24, step 3). -/
def clearLost (slot : Nat) (s : State) : State :=
  { s with mxc.quar := s.mxc.quar.filter fun e => !(slotOf e.1 == slot && e.2 == .cardLost) }

/-- A descriptor is accepted (R3). -/
def accepted (d : Answer) (slot : Nat) (checkPassed : Bool) : Option Desc :=
  match d.ctype with
  | none => none
  | some t =>
    if checkPassed && d.slot == slot && d.rating == (match t with
        | .low => 100
        | .high => 1500) then
      some { ctype := t, rating := d.rating, operate := d.operate, release := d.release }
    else none

/-- The slot probed becomes PRESENT with its descriptor, or ABSENT (R2, R23, R24); after slot 63 the scan ends: N-CARD if it
changed the LOST set (R25), and the reset batch follows. -/
def scanned (d : Option Desc) (sc : Scan) (s : State) : State :=
  let s := match d with
    | some d =>
      clearLost sc.slot { s with mxc.cards := s.mxc.cards.set .absent sc.slot (.present d) }
    | none => openCard sc.slot { s with mxc.cards := s.mxc.cards.set .absent sc.slot .absent }
  if sc.slot + 1 < Config.slots then { s with mxc.scan := some { sc with slot := sc.slot + 1 } }
  else
    let s := { s with mxc.scan := none }
    requestReset (if sc.hadLost then raiseCard s else s)

/-- A card's answer, or none within 2 ms, during a scan; nothing outside one. -/
def scanStep (d : Nat → Option Desc) (s : State) : State :=
  match s.mxc.scan with
  | some sc => scanned (d sc.slot) sc s
  | none => s

/-! ### Exclusions (R10) -/

/-- What one named point gives: its place in the adjusted target, and its excluded entries (R10). DESIGN CHOICE,
notes/assumptions/40.md: a point both absent and quarantined has the reason ABSENT. -/
def excludePoint (s : State) (r : BatchReq) (p : Nat) : Option Conn × List Excl :=
  let inA := r.a.contains p
  let inB := r.b.contains p
  let both (why : ExclReason) : List Excl :=
    (if inA then [{ point := p, side := .a, reason := why }] else []) ++
    (if inB then [{ point := p, side := .b, reason := why }] else [])
  if !s.present p then (none, both .absent)
  else if s.quar p != .none then (none, both .quarantined)
  else if inA then (some .a, if inB then [{ point := p, side := .b, reason := .bothSides }] else [])
  else (some .b, [])

/-- The points a request names, ascending, each once. -/
def BatchReq.named (r : BatchReq) : List Nat := sortAsc (r.a ++ r.b)

/-- The adjusted target (R10). -/
def adjusted (s : State) (r : BatchReq) : SMap Conn :=
  r.named.filterMap fun p => (excludePoint s r p).1.map fun c => (p, c)

/-- The excluded list, in point order, side A first (R10). -/
def exclusions (s : State) (r : BatchReq) : List Excl := r.named.flatMap fun p => (excludePoint s r p).2

/-- Whether one excluded entry stands before another (R10). -/
def Excl.before (x y : Excl) : Bool := x.point < y.point || (x.point == y.point && x.side == .a && y.side == .b)

/-- Add an entry at its place; one entry for each point and side (R10). DESIGN CHOICE, notes/assumptions/12.md: the reason of
an entry made earlier stays, NO_CLOSE before STUCK and either before CARD_LOST. -/
def insertExcl (x : Excl) : List Excl → List Excl
  | [] => [x]
  | y :: ys =>
    if x.point = y.point ∧ x.side = y.side then y :: ys
    else if x.before y then x :: y :: ys else y :: insertExcl x ys

/-- The side an adjusted target names for a point. -/
def sideOf : Conn → Option Side
  | .a => some .a
  | .b => some .b
  | .opn => none

def connOf : Side → Conn
  | .a => .a
  | .b => .b

/-- Entries with one reason for those of some points that the adjusted target names (R17 to R19). -/
def exclude (ps : List Nat) (why : ExclReason) (b : Batch) : Batch :=
  { b with excl := ps.foldl (fun ex p => match sideOf (b.adj.get .opn p) with
    | some side => insertExcl { point := p, side := side, reason := why } ex
    | none => ex) b.excl }

/-! ### Settled (R20) -/

/-- The acts of an engine whose batch settled OK: the MATRIX records, its UNTEST records, and the rest of its unit
(R113, R121, R84, R80, R142, R160). -/
def settledActs (who : Requester) (excl : List Excl) (faults : List MFault) (s : State) : List Act :=
  let records := faults.map fun f => Act.record (faultDraft f)
  let untests := excl.map fun e => Act.untest e.point
  let named (p : Nat) (side : Side) : Bool := excl.any fun e => e.point == p && e.side == side
  match who with
  | .cte =>
    match s.cte with
    | .cont j => records ++ untests ++ [.pairSettled (named j.anchor .a) (named j.cursor .b)]
    | .zero j => records ++ [.zeroSettled (named j.r .a) (named j.cursor .b)]
    | _ => records
  | .ise => records ++ untests ++ [.insulSettled]
  | .wte =>
    match s.wte with
    | some j => records ++ [.watchSettled (excl.any fun e => e.point == j.pair.a || e.point == j.pair.b)]
    | none => records
  | .gsu => records ++ untests ++ [.searchSettled true (undriven s.gsu.driven excl)]
  | _ => []

/-- Whether a settled event with result STUCK or FROZEN has UNTEST records for the points that first appear in its excluded
list: that of a LEARN search, of an insulation unit and of localisation has them, whatever its result (R84, R142, R147); that
of a short search with STUCK (R121), and not with FROZEN (R126; DEDUCED, notes/assumptions/45.md); that of a pair, zeroing or
watch unit never (R113, R80, R167). -/
def untestsExcluded (who : Requester) (res : BatchResult) (s : State) : Bool :=
  match who with
  | .ise => true
  | .gsu =>
    match s.ise, s.cte with
    | none, .cont _ => res == .stuck
    | _, _ => true
  | _ => false

/-- The records of a settled event with result STUCK or FROZEN, in their order (R100): the matrix faults, then the UNTEST
records. -/
def eventDrafts (who : Requester) (res : BatchResult) (excl : List Excl) (faults : List MFault) (s : State) : List Draft :=
  let fresh := (sortAsc (excl.map fun e => e.point)).filter fun p => !s.reported.contains p
  faults.map faultDraft ++ (if untestsExcluded who res s then fresh.map fun p => untestDraft p s else [])

/-- The settled event reaches an engine of the run (R20, R113, R126, R142, R167, R65). One that has been stopped drops it:
its records would come after the end cause (R100). The records of a FROZEN event are made before the fault ends the run
(DEDUCED, notes/assumptions/45.md). -/
def engineSettled (who : Requester) (res : BatchResult) (excl : List Excl) (faults : List MFault) (s : State) : State :=
  if s.engine.isNone then s
  else match res with
    | .ok => later (settledActs who excl faults s) s
    | .stuck => endCause .aborted .stuckRelay (createOwn (eventDrafts who .stuck excl faults s) s)
    | .frozen =>
      let s := createRecords (eventDrafts who .frozen excl faults s) s
      if who = .gsu && s.engine.isSome then later [.searchSettled false false] s else s
    | .aborted => s

/-- Every batch ends with one settled event, sent to its requester (R20). -/
def deliver (who : Requester) (res : BatchResult) (excl : List Excl) (faults : List MFault) (s : State) : State :=
  match who with
  | .reset => resetComplete s
  | .teardown => if s.rnc.state = .ending then runEnded s else s
  | .probeOn => probeSettled res excl s
  | .probeOff => probeDone s
  | .cte => engineSettled .cte res excl faults s
  | .ise => engineSettled .ise res excl faults s
  | .wte => engineSettled .wte res excl faults s
  | .gsu => engineSettled .gsu res excl faults s

/-- The batch settles; the moving mark is cleared (R20). -/
def settle (res : BatchResult) (b : Batch) (s : State) : State :=
  deliver b.req.who res b.excl b.faults { s with mxc.batch := none }

/-! ### Phases (R14 to R16, R21) -/

def setBatch (b : Batch) (s : State) : State := { s with mxc.batch := some b }

/-- The slots of a batch whose cards still answer. -/
def stillPresent (s : State) (slots : List Nat) : List Nat := slots.filter fun k => (s.card k).isPresent

/-- Readback: each card that acknowledged a command, or every PRESENT card for the reset batch (R16, R24). -/
def beginReadback (b : Batch) (s : State) : State :=
  let reads := if b.req.who = .reset then s.presentSlots else stillPresent s b.acked
  if reads = [] then settle (if b.aborted then .aborted else .ok) b s
  else setBatch { b with phase := .readback, cmds := [], reads := reads } s

/-- The close phase (R15); an aborted batch skips it (R21). -/
def beginClose (b : Batch) (s : State) : State :=
  if b.aborted then beginReadback b s
  else
    let cmds := b.adj.filterMap fun e =>
      match sideOf e.2 with
      | some side => if s.usable e.1 && s.conn e.1 != e.2 then some { point := e.1, side := side : RelayCmd } else none
      | none => none
    if cmds = [] then beginReadback b s
    else setBatch { b with phase := .closing, cmds := cmds, phaseAcked := [], waitMs := 0 } s

/-- Both relays of some points, as open commands (R17, R18, R24). -/
def bothRelays (ps : List Nat) : List RelayCmd := ps.flatMap fun p => [{ point := p, side := .a }, { point := p, side := .b }]

/-- The relays the open phase commands: those recorded closed that the target requires open (R14), or both relays of every
point of every PRESENT card for the reset batch (R24). -/
def openCmds (b : Batch) (s : State) : List RelayCmd :=
  if b.req.who = .reset then
    s.presentSlots.flatMap fun k => bothRelays (cardPoints k)
  else s.mxc.conn.filterMap fun e =>
    match sideOf e.2 with
    | some side => if b.adj.get .opn e.1 != e.2 then some { point := e.1, side := side } else none
    | none => none

/-- The precondition is met: the matrix is moving, and the open phase begins (R12 to R14). -/
def beginOpen (b : Batch) (s : State) : State :=
  let cmds := openCmds b s
  if cmds = [] then beginClose b s
  else setBatch { b with phase := .opening, cmds := cmds, phaseAcked := [], waitMs := 0 } s

/-- The time a card takes in a phase: release when opening, operate when closing (R14, R15). -/
def phaseTime (opening : Bool) (s : State) (slot : Nat) : Nat :=
  match (s.card slot).desc with
  | some d => relayTime (if opening then d.release else d.operate)
  | none => 0

/-- The phase's last acknowledge has arrived or timed out: the wait, the largest time among the cards that acknowledged
(R14, R15); none when no card that acknowledged is left (R19). -/
def phaseDone (b : Batch) (s : State) : State :=
  let opening := b.phase == .opening
  match stillPresent s b.phaseAcked with
  | [] => if opening then beginClose b s else beginReadback b s
  | ks =>
    setBatch { b with phase := if opening then .openWait else .closeWait,
                      waitMs := (ks.map (phaseTime opening s)).foldl max 0 } s

/-- Commands are outstanding in the open or the close phase. -/
def Batch.commanding (b : Batch) : Bool := b.phase == .opening || b.phase == .closing

/-- The acknowledge of an open command of R17 or R18, whose point is recorded OPEN already (notes/assumptions/11.md). -/
def openAcknowledged (point : Nat) (side : Side) (s : State) : State :=
  { s with mxc.opens := s.mxc.opens.erase { point := point, side := side } }

/-- CARD_ACKNOWLEDGE (R14, R15): the relay's point is recorded OPEN, or A or B. What is no command of the batch's phase may be
an open command of R17 or R18. -/
def acknowledge (point : Nat) (side : Side) (s : State) : State :=
  match s.mxc.batch with
  | none => openAcknowledged point side s
  | some b =>
    if !b.commanding || !b.cmds.contains { point := point, side := side } then openAcknowledged point side s
    else
      let b' := { b with
        cmds := b.cmds.erase { point := point, side := side }
        phaseAcked := insertAsc (slotOf point) b.phaseAcked
        acked := insertAsc (slotOf point) b.acked }
      let conn :=
        if b.phase = .opening then
          if s.conn point = connOf side then s.mxc.conn.set .opn point .opn else s.mxc.conn
        else if s.usable point then s.mxc.conn.set .opn point (connOf side) else s.mxc.conn
      let s := { s with mxc.conn := conn }
      if b'.cmds = [] then phaseDone b' s else setBatch b' s

/-- A command goes to this slot's card. -/
def RelayCmd.atSlot (slot : Nat) (c : RelayCmd) : Bool := slotOf c.point == slot

/-- A PRESENT card becomes LOST (R19), and N-CARD is raised (R25, R200); no command to it is outstanding any more. -/
def cardGone (slot : Nat) (s : State) : State :=
  let s := { s with mxc.opens := s.mxc.opens.filter fun c => !c.atSlot slot }
  match s.card slot with
  | .present d =>
    let s := { s with
      mxc.cards := s.mxc.cards.set .absent slot (.lost d)
      flk.lostSince := insertAsc slot s.flk.lostSince }
    raiseCard (openCard slot (quarantineCard slot .cardLost s))
  | _ => s

/-- The batch in flight when a PRESENT card is lost: its entries and its fault (R19, R20). -/
def lostIn (slot : Nat) (s : State) (b : Batch) : Batch :=
  if (s.card slot).isPresent then
    { exclude (cardPoints slot) .cardLost b with faults := b.faults ++ [.lost slot] }
  else b

/-- OPEN_PHASE_WAIT_END and CLOSE_PHASE_WAIT_END (R14 to R16, R21). -/
def waitEnd (which : BatchPhase) (s : State) : State :=
  match s.mxc.batch with
  | none => s
  | some b =>
    if b.phase ≠ which then s
    else match which with
      | .openWait => beginClose b s
      | .closeWait => beginReadback b s
      | _ => s

/-! ### Readback (R16 to R18) -/

/-- A card has been read or lost; after the last one the batch settles (R16, R20, R21). -/
def readDone (slot : Nat) (b : Batch) (s : State) : State :=
  let reads := b.reads.filter fun k => k != slot
  if reads = [] then settle (if b.aborted then .aborted else if b.stuck then .stuck else .ok) b s
  else setBatch { b with reads := reads } s

/-- The batch goes on without a card: no command to it is outstanding, and it is not read (R19). -/
def goOnWithout (slot : Nat) (b : Batch) (s : State) : State :=
  let cmds := b.cmds.filter fun c => !c.atSlot slot
  if b.phase = .readback then readDone slot b s
  else if b.commanding && cmds.isEmpty then phaseDone { b with cmds := cmds } s
  else setBatch { b with cmds := cmds } s

/-- CARD_ACK_TIMEOUT (R14, R19): a card with a command outstanding, of the batch's phase or of R17 or R18, is lost. -/
def ackTimeout (slot : Nat) (s : State) : State :=
  match s.mxc.batch with
  | none => if s.mxc.opens.any (RelayCmd.atSlot slot) then cardGone slot s else s
  | some b =>
    if (b.commanding && b.cmds.any (RelayCmd.atSlot slot)) || s.mxc.opens.any (RelayCmd.atSlot slot) then
      goOnWithout slot (lostIn slot s b) (cardGone slot s)
    else s

/-- The points of a card whose closed relay reads open (R16). DESIGN CHOICE, notes/assumptions/12.md: the failures that one
report shows are found in ascending point order. -/
def failedToClose (s : State) (slot : Nat) (a b : BitVec 64) : List Nat :=
  (cardPoints slot).filter fun p =>
    match s.conn p with
    | .a => !a.getLsbD (p % 64)
    | .b => !b.getLsbD (p % 64)
    | .opn => false

/-- A card has a relay that should be open and reads closed (R16). -/
def anyStuck (s : State) (slot : Nat) (a b : BitVec 64) : Bool :=
  (cardPoints slot).any fun p =>
    (a.getLsbD (p % 64) && s.conn p != .a) || (b.getLsbD (p % 64) && s.conn p != .b)

/-- READBACK_REPORT (R16 to R18). The relays of what failed are commanded open; the batch does not wait for them
(notes/assumptions/11.md). -/
def readback (slot : Nat) (aCoils bCoils : BitVec 64) (s : State) : State :=
  match s.mxc.batch with
  | none => s
  | some b =>
    if b.phase ≠ .readback || !b.reads.contains slot then s
    else
      let bad := failedToClose s slot aCoils bCoils
      let stuck := anyStuck s slot aCoils bCoils
      let b := { exclude bad .noClose b with faults := b.faults ++ bad.map MFault.noClose }
      let s := { s with
        mxc.quar := s.mxc.quar.setAll .none bad .readback
        mxc.conn := s.mxc.conn.setAll .opn bad .opn
        mxc.opens := s.mxc.opens ++ bothRelays (if stuck then cardPoints slot else bad) }
      if stuck then
        readDone slot { exclude (cardPoints slot) .stuck b with faults := b.faults ++ [.stuck slot], stuck := true }
          (openCard slot (quarantineCard slot .readback s))
      else readDone slot b s

/-- READBACK_TIMEOUT (R16, R19). -/
def readbackLost (slot : Nat) (s : State) : State :=
  match s.mxc.batch with
  | none => s
  | some b =>
    if b.phase ≠ .readback || !b.reads.contains slot then s
    else readDone slot (lostIn slot s b) (cardGone slot s)

/-! ### Taking a request (R9 to R13) -/

/-- The adjusted target equals the recorded connection of every point (R11). -/
def unchanged (adj : SMap Conn) (s : State) : Bool :=
  (s.mxc.conn.map Prod.fst ++ adj.map Prod.fst).all fun p => s.conn p == adj.get .opn p

/-- A batch as it is taken (R10). -/
def freshBatch (r : BatchReq) (s : State) : Batch :=
  { req := r, adj := adjusted s r, excl := exclusions s r, faults := [], phase := .busWait, cmds := [], phaseAcked := [],
    acked := [], waitMs := 0, reads := [], stuck := false, aborted := false }

/-- The precondition: the gate, then the bus (R12). -/
def precondition (b : Batch) (s : State) : State :=
  let s := closeGate s
  if s.busStill then beginOpen b s
  else match disable .mxc s with
    | (.safe, t) => beginOpen b t
    | (.fault, t) => settle .frozen b t
    | (.wait, t) => setBatch b t

/-- A request is taken: exclusions, the frozen check, the unchanged check, the precondition (R10 to R12, R24). -/
def takeBatch (r : BatchReq) (s : State) : State :=
  let b := freshBatch r s
  if s.hvc.dischLatch then settle .frozen b s
  else if r.who ≠ .reset && unchanged b.adj s then settle .ok b s
  else precondition b s

/-- Held requests are taken in arrival order, each when the one before it has settled, at most `n` of them; none is taken
while a batch is in flight or a scan in progress (R9, R20, R2). -/
def takeHeld : Nat → State → State
  | 0, s => s
  | n + 1, s =>
    if s.mxc.scan.isSome || s.mxc.batch.isSome then s
    else match s.mxc.held with
      | [] => s
      | r :: rs => takeHeld n (takeBatch r { s with mxc.held := rs })

/-- BATCH_REQUEST: the first held request is taken, and those behind it as each settles at once (R9). -/
def batchTake (s : State) : State := takeHeld s.mxc.held.length s

/-- When a command has brought the batch in flight to its end, the requests held before it are taken (R20). A request made
by the settled event itself waits for BATCH_REQUEST (notes/assumptions/8.md). -/
def takeAfterSettle (before s : State) : State :=
  if before.mxc.batch.isSome && s.mxc.batch.isNone then
    takeHeld (before.mxc.held.filter fun r => s.mxc.held.contains r).length s
  else s

/-- Bus safe reaches a batch that waits for it; a gate opened meanwhile is closed first (R12, R13). -/
def batchSafe (s : State) : State :=
  match s.mxc.batch with
  | some b => if b.phase = .busWait then beginOpen b (closeGate s) else s
  | none => s

/-- Discharge fault reaches a batch that waits for bus safe: it settles FROZEN (R12). -/
def batchFault (s : State) : State :=
  match s.mxc.batch with
  | some b => if b.phase = .busWait then settle .frozen b s else s
  | none => s

end Sys2Proof.Machine
end

