-- ==== Sys2Proof/Machine/HighVoltage.lean ====
section
/-! DEFINITION. The high-voltage controller (sections 7.1 to 7.3, 7.6): energisation requests, ramp and dwell, fast readings, discharge, the guard and the link. -/

namespace Sys2Proof.Machine

/-! ### Energisation requests (R130) -/

/-- A granted insulation unit of a RUNNING run that is not closing out (R130, condition 5). -/
def State.insulationUnit (s : State) : Bool :=
  s.rnc.state == .running && s.rnc.verdict == .none && s.rnc.unit == some .insulation

/-- The first enabling condition that fails (R130). -/
def hvConditions (s : State) : Option HvCause :=
  if !s.hvc.guardClosed then some .guard
  else if s.hvc.tripLatch then some .tripLatch
  else if s.hvc.dischLatch then some .dischargeLatch
  else if s.hvc.linkExpired then some .link
  else if !s.insulationUnit then some .notRunning
  else none

/-- The HVC is handed an energisation request (R130). -/
def hvRequest (e : Energ) (s : State) : State :=
  if s.hvc.state ≠ .off then next [.insulRefused .state] s
  else match hvConditions s with
    | some c => next [.insulRefused c] s
    | none => { s with hvc.waitEnable := some e }

/-- The ISE asks for its energisation (R142, R148). -/
def iseEnergise (s : State) : State :=
  match s.ise with
  | some j => hvRequest (energOf j) (setIse (freshUnit j) s)
  | none => s

/-- The source is enabled (R130, steps 1 to 3). -/
def enable (e : Energ) (s : State) : State :=
  setLamp { s with
    hvc.state := .ramp
    hvc.setpoint := 0
    hvc.energ := e
    hvc.energised := true
    hvc.holding := false
    hvc.checking := false
    hvc.dwellClock := 0
    hvc.arcCount := 0
    hvc.tripRun := 0
    hvc.lastFast := 0
    hvc.energPeak := 0 }

/-- ENERGISATION_ENABLE: a request that waits is taken once the matrix is still: the gate is closed, the conditions are
checked again, and the source is enabled or the request refused (R130, R13). -/
def energisationTake (s : State) : State :=
  match s.hvc.waitEnable with
  | none => s
  | some e =>
    if s.moving then s
    else
      let s := closeGate { s with hvc.waitEnable := none }
      match hvConditions s with
      | some c => later [.insulRefused c] s
      | none => enable e s

/-- A request waiting to enable is refused (R150, R151). -/
def refuseWaiting (c : HvCause) (s : State) : State :=
  match s.hvc.waitEnable with
  | some _ => later [.insulRefused c] { s with hvc.waitEnable := none }
  | none => s

/-! ### Ramp and dwell (R133, R134) -/

/-- RAMP_TICK: the setpoint climbs by the slew, capped at the target, where the hold starts (R133). -/
def rampTick (s : State) : State :=
  let h := s.hvc
  if h.state = .ramp ∧ h.setpoint < h.energ.target then
    let sp := min h.energ.target (h.setpoint + h.energ.slew)
    { s with hvc.setpoint := sp, hvc.holding := sp == h.energ.target }
  else s

/-- RAMP_CHECK: the hold has run; the ISE takes a reading on IR0 (R133, R143). -/
def rampCheck (s : State) : State :=
  if s.hvc.state = .ramp ∧ s.hvc.holding = true then
    let s := { s with hvc.holding := false, hvc.checking := true }
    match s.ise with
    | some _ => requestReading .ir0 s
    | none => s
  else s

/-- DWELL_TICK: the next tick, 10 ms on, while the dwell clock is below the dwell time; the ISE takes a reading (R134,
R144). -/
def dwellTick (s : State) : State :=
  if s.hvc.state = .dwell ∧ s.hvc.dwellClock + 10 < s.hvc.energ.dwell then
    let s := { s with hvc.dwellClock := s.hvc.dwellClock + 10 }
    match s.ise with
    | some j => requestReading j.leak s
    | none => s
  else s

/-- DWELL_TIME_OUT: the ISE applies a reading under way first, and then ends the energisation (R134, R144). -/
def dwellTimeOut (s : State) : State :=
  if s.hvc.state = .dwell then
    let s := { s with hvc.dwellClock := s.hvc.energ.dwell }
    match s.ise with
    | some j =>
      if j.verdict ≠ .none then s
      else if s.msu.reading then setIse { j with timedOut := true } s
      else fixPass j s
    | none => s
  else s

/-! ### Fast readings (R132, R138, R139) -/

/-- What a fast reading is read as, in picoamps: steps of 1000 pA, at most 100,000,000 pA (R132). -/
def fastPa (nanoamps : Nat) : Nat := min 100000000 (nanoamps * 1000)

/-- Raise the peaks and count for the trip (R132, R138). -/
def fastCount (pa : Nat) (s : State) : State :=
  { s with
    hvc.energPeak := max s.hvc.energPeak pa
    hvc.peakHold := max s.hvc.peakHold pa
    hvc.tripRun := if s.hvc.energ.tripLevel < pa then s.hvc.tripRun + 1 else 0
    hvc.lastFast := pa }

/-- A trip: the source off, the latch, the report (R138). -/
def trip (s : State) : State :=
  let s := enterDischarge s
  insulTrip (latchCause .trip { s with hvc.tripLatch := true })

/-- FAST_READING. A reading that completes a trip is no arc: the source is off by then (R138, R139). -/
def fastReading (nanoamps : Nat) (s : State) : State :=
  if !s.hvc.sourceOn then s
  else
    let pa := fastPa nanoamps
    let before := s.hvc.lastFast
    let s := fastCount pa s
    if s.hvc.energ.tripDelay + 1 ≤ s.hvc.tripRun then trip s
    else if s.hvc.energ.arcThr < pa ∧ before ≤ s.hvc.energ.arcThr then
      let s := { s with hvc.arcCount := s.hvc.arcCount + 1 }
      if s.hvc.energ.arcLimit ≤ s.hvc.arcCount then insulArc (enterDischarge s) else s
    else s

/-! ### Discharge (R135, R136, R137) -/

/-- Bus safe reaches a waiter (R137). -/
def answerSafe (s : State) (w : Waiter) : State :=
  match w with
  | .mxc => batchSafe s
  | .msu => windowSafe s
  | .rnc => enterEnding s

/-- Discharge fault reaches a waiter (R136, R137, R104). -/
def answerFault (s : State) (w : Waiter) : State :=
  match w with
  | .mxc => batchFault s
  | .msu => windowUnsafe s
  | .rnc => enterEnding (overrideFault s)

/-- The end of an energisation during which GUARD or LINK_LOST was added: HELD, if the reason still stands (R103). It comes
before the next permit is asked, and after the record that the ISE makes at the bus safe of a verdict fixed before (R150,
R58; DEDUCED, notes/assumptions/44.md). -/
def heldAtEnd (s : State) : State :=
  if s.rnc.struck && !s.hvc.energised then
    let s := { s with rnc.struck := false }
    if s.recordable && (s.rnc.hold.guard || s.rnc.hold.linkLost) then enterHeld s else s
  else s

/-- Bus safe (R135): OFF, and the ISE and every waiter are told. -/
def busSafe (s : State) : State :=
  let waiters := s.hvc.waiters
  let energised := s.hvc.energised
  let s := setLamp { s with hvc.state := .off, hvc.timer := false, hvc.waiters := [], hvc.energised := false }
  let s := if energised then
      match s.ise with
      | some _ => later [.insulSafe] s
      | none => s
    else s
  waiters.foldl answerSafe s

/-- The run clock counts one millisecond in RUNNING and ENDING (R98; notes/assumptions/6.md). -/
def clockTick (s : State) : State :=
  if s.rnc.state = .running ∨ s.rnc.state = .ending then { s with rnc.clock := (s.rnc.clock + 1) % clockMod } else s

/-- BUS_MONITOR_READING (R28, R131, R135). -/
def busReading (raw : Word16) (s : State) : State :=
  let s := clockTick s
  let s := setLamp { s with hvc.bus := busVoltage s.msu.cal raw }
  if s.hvc.state = .discharge ∧ s.hvc.bus ≤ Config.safeBus then busSafe s else s

/-- DISCHARGE_FAULT: the discharge timer has run out (R136). -/
def dischargeFault (s : State) : State :=
  if s.hvc.state = .discharge ∧ s.hvc.timer = true then
    let waiters := s.hvc.waiters
    let energised := s.hvc.energised
    let s := latchCause .discharge { s with hvc.dischLatch := true }
    let s := setLamp { s with hvc.state := .off, hvc.timer := false, hvc.waiters := [], hvc.energised := false }
    let s := if energised then
        match s.ise with
        | some j => createOwn [dischgDraft j] s
        | none => s
      else s
    endCause .aborted .dischargeFault (waiters.foldl answerFault s)
  else s

/-! ### The guard and the link (R150, R151, R103) -/

/-- GUARD or LINK_LOST is added to the hold set; added anew during an energisation, it strikes it (R103). -/
def addStriking (r : HoldReason) (s : State) : State :=
  let t := addHold r s
  if !s.rnc.hold.has r && s.hvc.energised then { t with rnc.struck := true } else t

/-- High voltage is removed in RAMP or DWELL; elsewhere nothing. -/
def removeIfUp (s : State) : State := if s.hvc.sourceOn then removeHv s else s

/-- GUARD_OPEN (R150, R103): only the change from closed to open. -/
def guardOpened (s : State) : State :=
  if s.hvc.guardClosed then
    let s := latchCause .guard { s with hvc.guardClosed := false }
    let s := refuseWaiting .guard (removeIfUp s)
    if s.live && s.ise.isSome then addStriking .guard s else s
  else s

/-- GUARD_CLOSE (R150). -/
def guardClosedIn (s : State) : State := { s with hvc.guardClosed := true }

/-- A watchdog expiry reaches the HVC (R151). -/
def linkLost (s : State) : State :=
  refuseWaiting .link (removeIfUp (latchCause .link { s with hvc.linkExpired := true }))

end Sys2Proof.Machine
end

