-- ==== Sys2Proof/Machine/Engine.lean ====
section
/-! DEFINITION. The engine at work: its decisions, its permits and its acts, done in order within a command as far as the defect log lets it (R97, R173). -/

namespace Sys2Proof.Machine

/-- The engine, in IDLE, decides its next unit. -/
def engineDecide (s : State) : State :=
  match s.ise, s.wte with
  | some j, _ => insulDecide j s
  | none, some j => watchDecide j s
  | none, none => cteDecide s

/-- The unit a permit is asked for (R97, R141). -/
def askKind (s : State) : UnitKind :=
  match s.ise with
  | some j => insulKind j
  | none => .low

/-- GRANT reaches the engine. -/
def granted (s : State) : State :=
  match s.ise, s.wte with
  | some j, _ => insulGranted j s
  | none, some j => watchGranted j s
  | none, none => cteGranted s

/-- PARK reaches the engine. -/
def parked (s : State) : State :=
  match s.ise, s.wte with
  | some j, _ => insulParked j s
  | none, some j => watchParked j s
  | none, none => cteParked s

/-- The engine asks for a permit and takes the answer (R97). STOP ends its work for the run. At the end of a struck
energisation the run is HELD before it is asked, so that the answer is PARK (R103, R146). -/
def askPermit (s : State) : State :=
  match permit (askKind s) (heldAtEnd s) with
  | (.grant, t) => granted t
  | (.park, t) => parked t
  | (.stop, t) => stopEngine t

/-- The engine opens its sample window. -/
def engineWindow (s : State) : State :=
  match s.wte with
  | some j => requestWindow (watchWindowReq j) s
  | none => cteWindow s

/-- One act of the engine. -/
def runAct (a : Act) (s : State) : State :=
  match a with
  | .decide => engineDecide s
  | .ask => askPermit s
  | .record d => createRecord d s
  | .untest p => reportUntest p s
  | .pairUntest => match s.wte with
    | some j => pairUntest j s
    | none => s
  | .window => engineWindow s
  | .energise => iseEnergise s
  | .pairSettled anchorLost memberLost => match s.cte with
    | .cont j => pairSettled anchorLost memberLost j s
    | _ => s
  | .zeroSettled refLost pointLost => match s.cte with
    | .zero j => zeroSettled refLost pointLost j s
    | _ => s
  | .watchAdvance => match s.wte with
    | some j => advance j s
    | none => s
  | .watchSettled bad => match s.wte with
    | some j => watchSettled bad j s
    | none => s
  | .insulSettled => match s.ise with
    | some j => insulSettled j s
    | none => s
  | .searchSettled ok noDrive => searchSettled ok noDrive s
  | .searchNext => searchTake s
  | .searchAnswer ans => searchAnswer ans s
  | .found q _ m => match s.ise with
    | some j => insulFound q m j s
    | none => cteFound q m s
  | .searchEnded e n => match s.ise with
    | some j => insulSearchEnded e n j s
    | none => cteSearchEnded s
  | .insulSafe => match s.ise with
    | some j => insulSafe j s
    | none => s
  | .insulRefused _ => match s.ise with
    | some j => insulRefused j s
    | none => s

/-- Whether an act is a request, which an engine holds back while its record waits in the entry place (R173). -/
def isRequest (a : Act) (s : State) : Bool :=
  match a with
  | .ask => true
  | .record _ => true
  | .untest p => !s.reported.contains p
  | .pairUntest => true
  | .window => true
  | .energise => true
  | _ => false

/-- The engine holds this act back (R173). -/
def heldBack (a : Act) (s : State) : Bool :=
  s.dlg.heldBack.isSome && s.dlg.heldBack == s.engine && isRequest a s

/-- Do the engine's acts in order, until there is none or the next is held back (R173). -/
def pump : Nat → State → State
  | 0, s => s
  | n + 1, s =>
    match s.todo with
    | [] => s
    | a :: rest => if heldBack a s then s else pump n (runAct a { s with todo := rest })

end Sys2Proof.Machine
end

