-- ==== Sys2Proof/Machine/Resets.lean ====
section
/-! DEFINITION. The resets, block by block (R23, R24, R50, R66, R85, R107, R128, R156, R168, R180, R193, R203). -/

namespace Sys2Proof.Machine

/-- RESET-WORK keeps what the other resets do not. -/
def ResetKind.isWork : ResetKind → Bool
  | .work => true
  | _ => false

/-- Batches and requests are abandoned without settled events and the scan begins (R23, R24). At power-on the cards are
ABSENT and every point OPEN before it; READBACK and CARD_LOST go at every reset but RESET-WORK. -/
def resetMxc (k : ResetKind) (m : Mxc) : Mxc :=
  { cards := if k = .powerOn then [] else m.cards
    conn := if k = .powerOn then [] else m.conn
    quar := if k.isWork then m.quar else []
    scan := some { slot := 0, kind := k,
                   hadLost := k != .powerOn && m.cards.any fun e => e.2.isLost }
    held := []
    batch := none
    opens := [] }

/-- R50. -/
def resetMsu (k : ResetKind) (m : Msu) : Msu := { Msu.reset with cal := if k.isWork then m.cal else .identity }

/-- R156. The guard input and the bus monitor value are not state a reset changes (R28; notes/assumptions/35.md). -/
def resetHvc (k : ResetKind) (h : Hvc) : Hvc :=
  let full := { Hvc.reset with guardClosed := h.guardClosed, bus := h.bus }
  if k.isWork then
    { full with
      state := if h.sourceOn then .discharge else .off
      timer := h.sourceOn
      tripLatch := h.tripLatch
      dischLatch := h.dischLatch
      peakHold := h.peakHold
      safety := h.safety }
  else full

/-- R85. -/
def resetNst (k : ResetKind) (n : Nst) : Nst := if k.isWork then n else .reset

/-- R107. -/
def resetRnc (k : ResetKind) (r : Rnc) : Rnc :=
  if k.isWork then { Rnc.reset with plan := r.plan, actions := r.actions, limit := r.limit, runNo := r.runNo }
  else .reset

/-- R193. A character on the wire is completed at every reset. A pending disable takes effect. -/
def resetPre (k : ResetKind) (p : Pre) : Pre :=
  let full := { Pre.reset with paper := p.paper, busy := p.busy, onWire := p.onWire }
  if k.isWork then
    let enable := p.enable && !p.disPending
    { full with
      state := if enable then .idle else .disabled
      enable := enable
      baud := p.baud
      timeout := p.timeout
      title := p.title }
  else full

/-- R203. The frame on the wire is completed at RESET-ALL and RESET-WORK, its record being gone (R180). -/
def resetFlk (k : ResetKind) (straps : BitVec 2) (f : Flk) : Flk :=
  match k with
  | .powerOn => { Flk.reset with straps := straps }
  | .pin => { Flk.reset with straps := straps }
  | .all =>
    { Flk.reset with
      straps := f.straps
      asm := f.asm
      requests := f.requests
      busy := f.busy
      ranOut := f.ranOut
      wire := f.wire.map fun w => { w with stream := false } }
  | .work =>
    { f with
      reply := none
      notices := []
      lostSince := []
      expired := false
      wire := f.wire.map fun w => { w with stream := false } }

/-- A reset is taken by every block; it is complete when its reset batch has settled (R203, R24). -/
def takeReset (k : ResetKind) (straps : BitVec 2) (s : State) : State :=
  let pre := resetPre k s.pre
  setLamp { s with
    mxc := resetMxc k s.mxc
    msu := resetMsu k s.msu
    hvc := resetHvc k s.hvc
    nst := resetNst k s.nst
    gsu := .idle
    rnc := resetRnc k s.rnc
    cte := .none
    ise := none
    wte := none
    todo := []
    dlg := .reset
    pre := pre
    flk := resetFlk k straps s.flk
    probe := none
    resetting := some { kind := k, leftRun := s.rnc.state != .idle, preChanged := pre.state != s.pre.state } }

end Sys2Proof.Machine
end

