-- ==== Sys2Proof/Machine/Requests.lean ====
section
/-! DEFINITION. The host's requests, each carried out by its owner (sections 1.6, 2.3, 4.2, 4.5, 5.1 to 5.3, 7.7, 9.4, 10.5, 11.5), the request list, and the order of work within one command. -/

namespace Sys2Proof.Machine

/-! ### Points, nets and calibration -/

/-- POINT-WRITE (R22, R76). -/
def doPointWrite (point lead : Word16) (release : Byte) (s : State) : State :=
  let p := point.toNat
  if s.active then refuse 0x03#8 .busy s
  else if Config.points ≤ p then refuse 0x03#8 .badArg s
  else match flagOf release with
    | none => refuse 0x03#8 .badArg s
    | some rel =>
      if !s.present p then refuse 0x03#8 .absentPoint s
      else if rel && (s.card (slotOf p)).isLost then refuse 0x03#8 .state s
      else
        let t := { s with
          nst.leads := s.nst.leads.set 0 p lead.toNat
          mxc.quar := if rel then s.mxc.quar.set .none p .none else s.mxc.quar }
        answer 0x03#8 (le16 p ++ le16 (t.lead p) ++ le8 (t.quar p).code) t

/-- POINT-READ (R8). -/
def doPointRead (point : Word16) (s : State) : State :=
  if Config.points ≤ point.toNat then refuse 0x04#8 .badArg s
  else answer 0x04#8 (pointPayload s point.toNat) s

/-- A net id that names a net (R67). -/
def validId (id : Nat) : Bool := 1 ≤ id && id ≤ Config.nets

/-- NET-ERASE (R72). -/
def doNetErase (all : Byte) (id : Word16) (s : State) : State :=
  if s.active then refuse 0x05#8 .busy s
  else match flagOf all with
    | none => refuse 0x05#8 .badArg s
    | some true =>
      answer 0x05#8 (le16 s.nst.nets.length ++ le16 (s.nst.nets.map fun e => e.2.length).sum)
        { s with nst.nets := [] }
    | some false =>
      if !validId id.toNat then refuse 0x05#8 .badArg s
      else
        let ms := s.members id.toNat
        answer 0x05#8 (le16 (if ms = [] then 0 else 1) ++ le16 ms.length)
          { s with nst.nets := s.nst.nets.set [] id.toNat [] }

/-- The first check of NET-WRITE that fails (R68). Flag NEW is 0, APPEND is 1. -/
def netWriteRefusal (id : Nat) (flag : Byte) (pts : List Nat) (s : State) : Option RefusalCode :=
  if s.active then some .busy
  else if !validId id || !(flag == 0#8 || flag == 1#8) || pts.length == 0 || Config.netWritePoints < pts.length
      || pts.any (fun p => Config.points ≤ p) then some .badArg
  else if flag == 1#8 && s.members id == [] then some .state
  else if pts.any (fun p => !s.present p) then some .absentPoint
  else if pts.any (fun p => s.netOf p != 0 && s.netOf p != id) then some .conflict
  else if flag == 0#8 && s.members id == [] && Config.nets ≤ s.nst.nets.length then some .noRoom
  else none

/-- The members of the named net after an accepted NET-WRITE (R69, R70). -/
def netAfter (old : List Nat) (flag : Byte) (pts : List Nat) : List Nat :=
  if flag = 0#8 then sortAsc pts else pts.foldl (fun acc p => insertAsc p acc) old

/-- NET-WRITE (R68 to R71). -/
def doNetWrite (id : Word16) (flag : Byte) (pts : List Word16) (s : State) : State :=
  let i := id.toNat
  let ps := pts.map BitVec.toNat
  match netWriteRefusal i flag ps s with
  | some c => refuse 0x06#8 c s
  | none =>
    let old := if flag = 0#8 then [] else s.members i
    let ms := netAfter (s.members i) flag ps
    let added := ms.length - old.length
    answer 0x06#8 (le16 i ++ le8 added ++ le8 (ps.length - added) ++ le16 ms.length ++ le16 (ms.headD 0))
      { s with nst.nets := s.nst.nets.set [] i ms }

/-- NET-READ (R73). -/
def doNetRead (id : Word16) (piece : Byte) (s : State) : State :=
  if !validId id.toNat || 34 < piece.toNat then refuse 0x07#8 .badArg s
  else answer 0x07#8 (netReadPayload s id.toNat piece.toNat) s

/-- CAL-WRITE (R36). -/
def doCalWrite (range : Byte) (offset gain : Word16) (s : State) : State :=
  if s.active then refuse 0x09#8 .busy s
  else if 6 < range.toNat then refuse 0x09#8 .badArg s
  else
    let e : CalEntry := { offset := storedOffset offset, gain := storedGain gain, uncal := false }
    answer 0x09#8 (le8 range.toNat ++ leInt16 e.offset ++ leInt16 e.gain)
      { s with msu.cal := s.msu.cal.setIdx range.toNat e }

/-! ### The plan, the actions, the run -/

/-- PLAN-ERASE (R86). -/
def doPlanErase (s : State) : State :=
  if s.active then refuse 0x0B#8 .busy s
  else answer 0x0B#8 (le8 s.rnc.plan.length) { s with rnc.plan := [] }

/-- A stored voltage exceeds the rating limit (R89). -/
def overRating (s : State) (volts : Nat) : Bool :=
  match s.ratingLimit with
  | some r => decide (r < volts)
  | none => false

/-- The checks of PLAN-ADD that follow those of its arguments (R87, 3 to 5). -/
def planAddRefusal (st : PlanStep) (s : State) : Option RefusalCode :=
  if Config.planSteps ≤ s.rnc.plan.length then some .noRoom
  else match st with
    | .cont _ => none
    | .insul p => if overRating s p.volts then some .rating else none
    | .watch p => if p.pairs.any fun q => !(s.present q.1 && s.present q.2) then some .absentPoint else none

/-- PLAN-ADD (R87 to R90). -/
def doPlanAdd (b : PlanBlock) (s : State) : State :=
  if s.active then refuse 0x0C#8 .busy s
  else match storedStep b with
    | none => refuse 0x0C#8 .badArg s
    | some st =>
      match planAddRefusal st s with
      | some c => refuse 0x0C#8 c s
      | none => answer 0x0C#8 (le8 s.rnc.plan.length ++ st.bytes) { s with rnc.plan := s.rnc.plan ++ [st] }

/-- An action as stored: TRIP is never LOG, DISCHG always ABORT (R92). -/
def storedAction (i : Nat) (a : Action) : Action :=
  if i = 10 then .abort else if i = 6 ∧ a = .log then .hold else a

/-- The actions of a payload, when every code is one (R92). -/
def readActions (codes : List Byte) : Option (List Action) := codes.mapM fun b => Action.ofCode b.toNat

/-- ACTIONS-WRITE (R92). -/
def doActionsWrite (codes : List Byte) (limit : Word16) (s : State) : State :=
  if s.active then refuse 0x0E#8 .busy s
  else match readActions codes with
    | none => refuse 0x0E#8 .badArg s
    | some as =>
      let t := { s with
        rnc.actions := Vector.ofFn fun i : Fin 11 => storedAction i.val (as.getD i.val .log)
        rnc.limit := max 1 limit.toNat }
      answer 0x0E#8 (actionsPayload t) t

/-- The ranges of a step are all calibrated (R38). -/
def stepUncal (t : CalTable) : PlanStep → Bool
  | .cont p =>
    (match p.range with
      | .auto => t.cr0.uncal || t.cr1.uncal || t.cr2.uncal
      | .fixed r => (t.cont r).uncal) || (p.shorts && t.cr2.uncal)
  | .insul _ => t.ir0.uncal || t.ir1.uncal || t.ir2.uncal || t.hvm.uncal
  | .watch p => (t.cont p.range).uncal

/-- The answer to the uncalibrated question (R38). -/
def runUncal (k : RunKind) (s : State) : Bool :=
  match k with
  | .plan => s.rnc.plan.any (stepUncal s.msu.cal)
  | .learn => s.msu.cal.cr2.uncal
  | .zero => s.msu.cal.cr0.uncal

/-- Printing is enabled and both summary slots are occupied (R94, R184). -/
def printFull (s : State) : Bool := s.pre.enable && decide (Config.summarySlots ≤ s.pre.slots.length)

/-- The checks of every start (R94), with those of a PLAN run in their places. -/
def startRefusal (k : RunKind) (s : State) : Option RefusalCode :=
  if s.active then some .busy
  else if s.hvc.dischLatch then some .notSafe
  else if k == .plan && s.rnc.plan == [] then some .noPlan
  else if k == .plan && (s.rnc.plan.any fun st => match st with
      | .watch _ => false
      | _ => true) && !(s.nst.nets.any fun e => 2 ≤ e.2.length) then some .noNets
  else if k == .plan && (s.rnc.plan.any fun st => match st with
      | .insul p => overRating s p.volts
      | _ => false) then some .rating
  else if printFull s then some .printBacklog
  else none

/-- The next run number (R95). -/
def nextRun (n : Nat) : Nat := if n = 65535 then 1 else n + 1

/-- An accepted start, up to RUNNING and its N-RUN (R95, stages 1 to 5). -/
def beginRun (k : RunKind) (s : State) : State :=
  let t := { s with rnc := { s.rnc with
    runNo := nextRun s.rnc.runNo, kind := some k, counts := Vector.replicate 11 0, total := 0, clock := 0, hold := .empty,
    verdict := .none, reason := .none, step := 0, cursor := 0, unit := none, waits := false, struck := false } }
  let t := if t.pre.enable then claimSlot k (runUncal k t) t else t
  raiseRun { t with rnc.state := .running }

/-- START-PLAN (R94, R95): stage 6 hands step 0 to its engine. -/
def doStartPlan (s : State) : State :=
  match startRefusal .plan s with
  | some c => refuse 0x0F#8 c s
  | none =>
    let t := beginRun .plan s
    startStep (answer 0x0F#8 (le16 t.rnc.runNo) t)

/-- The learning threshold in use (R81). -/
def learnThreshold (r : Nat) : Nat := if r = 0 then 100000 else min r 10485600

/-- START-LEARN (R81, R94, R95). -/
def doStartLearn (rlearn : Word32) (s : State) : State :=
  match startRefusal .learn s with
  | some c => refuse 0x10#8 c s
  | none =>
    let t := beginRun .learn s
    let r := learnThreshold rlearn.toNat
    later [.decide] (answer 0x10#8 (le16 t.rnc.runNo ++ le32 r) { t with
      nst.nets := []
      cte := .learn { rlearn := r, nextId := 1, cursor := 0, net := none, reported := [], filter := .fresh,
                      phase := .idle } })

/-- The argument checks of START-ZERO (R77). -/
def zeroRefusal (r : Nat) (s : State) : Option RefusalCode :=
  match startRefusal .zero s with
  | some c => some c
  | none =>
    if Config.points ≤ r then some .badArg
    else if !s.present r then some .absentPoint
    else if s.quar r != .none then some .state
    else none

/-- START-ZERO (R77, R94, R95). -/
def doStartZero (r lr : Word16) (s : State) : State :=
  match zeroRefusal r.toNat s with
  | some c => refuse 0x11#8 c s
  | none =>
    let t := beginRun .zero s
    later [.decide] (answer 0x11#8 (le16 t.rnc.runNo) { t with
      nst.leads := t.nst.leads.set 0 r.toNat lr.toNat
      cte := .zero { r := r.toNat, lr := lr.toNat, cursor := 0, filter := .fresh, phase := .idle } })

/-- PAUSE (R99). -/
def doPause (s : State) : State :=
  if s.live then
    let t := addHold .pause s
    answer 0x12#8 (holdPayload t) t
  else refuse 0x12#8 .state s

/-- RESUME (R99). -/
def doResume (s : State) : State :=
  if s.live then
    if s.rnc.hold.guard && !s.hvc.guardClosed then refuse 0x13#8 .notSafe s
    else
      let t := removeHold [.pause, .operator, .linkLost, .guard] s
      answer 0x13#8 (holdPayload t) t
  else refuse 0x13#8 .state s

/-- ABORT (R101). -/
def doAbort (s : State) : State :=
  if s.active then
    let t := endCause .aborted .hostAbort s
    answer 0x14#8 (le8 t.rnc.state.code) t
  else refuse 0x14#8 .state s

/-- PROBE (R205). -/
def doProbe (a b : Word16) (range : Byte) (s : State) : State :=
  if s.active then refuse 0x16#8 .busy s
  else if Config.points ≤ a.toNat || Config.points ≤ b.toNat || a == b then refuse 0x16#8 .badArg s
  else match RangeSel.ofCode range.toNat with
    | none => refuse 0x16#8 .badArg s
    | some sel => probeStart a.toNat b.toNat sel s

/-! ### Log, printer, safety, link -/

/-- The number of host-marked records, those in stream included (R175). -/
def hostMarked (s : State) : Nat := (s.dlg.recs.filter (·.host)).length

/-- DEFECT-TAKE (R175). -/
def doDefectTake (s : State) : State :=
  match takeHost s.dlg.recs with
  | some (r, recs) =>
    let t := sweep { s with dlg.recs := recs }
    answer 0x17#8 (le8 1 ++ r.bytes ++ le16 t.dlg.recs.length ++ le16 (hostMarked t)) t
  | none =>
    answer 0x17#8 (le8 0 ++ List.replicate 28 0#8 ++ le16 s.dlg.recs.length ++ le16 (hostMarked s)) s

/-- STREAM-SET (R176). -/
def doStreamSet (on : Byte) (s : State) : State :=
  match flagOf on with
  | none => refuse 0x18#8 .badArg s
  | some v => answer 0x18#8 (le8 (yesNo v)) { s with dlg.streaming := v }

/-- A character a title may hold: blank to tilde (R191). -/
def printable (c : Byte) : Bool := 32 ≤ c.toNat && c.toNat ≤ 126

/-- PRINT-SET (R191). -/
def doPrintSet (enable baud timeout : Byte) (title : List Byte) (s : State) : State :=
  match flagOf enable, Baud.ofCode baud.toNat with
  | some on, some rate =>
    if 32 < title.length || !title.all printable then refuse 0x19#8 .badArg s
    else
      let t := setEnable on { s with
        pre.baud := rate
        pre.timeout := min 60 timeout.toNat
        pre.title := title }
      answer 0x19#8 (printSetPayload t) t
  | _, _ => refuse 0x19#8 .badArg s

/-- The number of print-marked records, that in the entry place included (R192). -/
def cancelCount (s : State) : Nat := ((s.dlg.recs ++ s.dlg.entry.toList).filter (·.print)).length

/-- PRINT-CANCEL (R192). -/
def doPrintCancel (s : State) : State :=
  if s.pre.state = .disabled then answer 0x1A#8 (le8 s.pre.state.code ++ le16 0) s
  else
    let t := cancelPrint s
    answer 0x1A#8 (le8 t.pre.state.code ++ le16 (cancelCount s)) t

/-- HV-RELEASE (R153, R102). -/
def doHvRelease (s : State) : State :=
  if Config.safeBus < s.hvc.bus then refuse 0x1B#8 .notSafe s
  else
    let t := { s with hvc.tripLatch := false, hvc.dischLatch := false, hvc.peakHold := 0 }
    let t := if s.hvc.tripLatch then removeHold [.tripLatched] t else t
    answer 0x1B#8 (releasePayload t) t

/-- The safety record as the present conditions have it (R154). -/
def presentCauses (h : Hvc) : Safety :=
  { guardOpened := !h.guardClosed, trip := h.tripLatch, linkLost := false, dischargeFault := h.dischLatch }

/-- SAFETY-READ (R154). -/
def doSafetyRead (s : State) : State :=
  answer 0x1C#8 (safetyPayload s) { s with hvc.safety := presentCauses s.hvc }

/-- Whether a kind of notice stays queued after NOTICE-SET (R200). -/
def keepNotice (f : Flk) (n : Notice) : Bool := f.classOn n.kind

/-- NOTICE-SET (R200). -/
def doNoticeSet (mask : Byte) (s : State) : State :=
  let f := { s.flk with
    classRun := mask.getLsbD 0
    classSafety := mask.getLsbD 1
    classPrinter := mask.getLsbD 2
    classCard := mask.getLsbD 3 }
  answer 0x1D#8 (le8 (classMask f)) { s with flk := { f with notices := f.notices.filter (keepNotice f) } }

/-- WATCHDOG-SET (R202; notes/assumptions/20.md). A timer that has run out stays stopped until a frame reloads it. -/
def doWatchdogSet (seconds : Byte) (s : State) : State :=
  let p := min 60 seconds.toNat
  answer 0x1E#8 (le8 p) { s with flk.wdPeriod := p, flk.wdRunning := p != 0 && !s.flk.ranOut }

/-! ### The request list (R197, R198, R202) -/

/-- A request is carried out by its owner; what is no request changes nothing. -/
def carryOut (i : Instr) (s : State) : State :=
  match i with
  | .identify => answer 0x01#8 (identifyPayload s) s
  | .cards => answer 0x02#8 (cardsPayload s) s
  | .pointWrite p l r => doPointWrite p l r s
  | .pointRead p => doPointRead p s
  | .netErase all id => doNetErase all id s
  | .netWrite id flag pts => doNetWrite id flag pts s
  | .netRead id piece => doNetRead id piece s
  | .netSum => answer 0x08#8 (netSumPayload s) s
  | .calWrite r o g => doCalWrite r o g s
  | .calRead => answer 0x0A#8 (calPayload s) s
  | .planErase => doPlanErase s
  | .planAdd b => doPlanAdd b s
  | .planRead i => answer 0x0D#8 (planReadPayload s i.toNat) s
  | .actionsWrite acts limit => doActionsWrite acts limit s
  | .startPlan => doStartPlan s
  | .startLearn r => doStartLearn r s
  | .startZero r lr => doStartZero r lr s
  | .pause => doPause s
  | .resume => doResume s
  | .abort => doAbort s
  | .runRead => answer 0x15#8 (runReadPayload s) s
  | .probe a b r => doProbe a b r s
  | .defectTake => doDefectTake s
  | .streamSet on => doStreamSet on s
  | .printSet en baud tmo title => doPrintSet en baud tmo title s
  | .printCancel => doPrintCancel s
  | .hvRelease => doHvRelease s
  | .safetyRead => doSafetyRead s
  | .noticeSet m => doNoticeSet m s
  | .watchdogSet sec => doWatchdogSet sec s
  | .resetWork => takeReset .work s.flk.straps s
  | .resetAll => takeReset .all s.flk.straps s
  | .unknown t => refuse t .unknown s
  | _ => s

/-- Carry out a request of the list: the FLK's own refusals, or the owner's work (R198). -/
def carryOutRequest (r : Request) (s : State) : State :=
  match r with
  | .ok i => carryOut i s
  | .badLength t => refuse t .length s

/-- The next request is taken when the last reply's last byte has been sent (R197); none during a reset (R203). -/
def service (s : State) : State :=
  if s.flk.busy || s.resetting.isSome then s
  else match s.flk.requests with
    | [] => s
    | r :: rs => carryOutRequest r { s with flk.requests := rs, flk.busy := true }

/-- A frame that enters the request list reloads the watchdog (R202). -/
def reloadWatchdog (s : State) : State :=
  { s with
    flk.wdRunning := s.flk.wdPeriod != 0
    flk.expired := false
    flk.ranOut := false
    hvc.linkExpired := if s.flk.expired then false else s.hvc.linkExpired }

/-- An accepted frame enters the request list, or is discarded when the list is full (R197). -/
def submit (r : Request) (s : State) : State :=
  if Config.requestPlaces ≤ s.flk.requests.length then discard s
  else reloadWatchdog { s with flk.requests := s.flk.requests ++ [r] }

/-! ### One command -/

/-- What follows the effect of a command within the same step: the next request if one can be taken, the engines' work, the
batches held behind one that settled, the hold at the end of a struck energisation, the print engine's decision, and the
transmitter (95_what_each_step_holds.md). DESIGN CHOICE, notes/assumptions/51.md: N-DEFECT notices are queued after the other
notices that this work raises (R201). -/
def finish (before s : State) : State :=
  let s := pump Config.engineFuel (service s)
  let s := heldAtEnd (pump Config.engineFuel (takeAfterSettle before s))
  streamFill (transmit (streamFill (wakePrint s)))

/-- A command: its effect, and what follows it in the same step. -/
def command (f : State → State) (s : State) : Host.Outcome State Fault Refusal := .next (finish s (f s))

/-- A request's own command: the frame that carries it is accepted (notes/assumptions/3.md). -/
def request (i : Instr) (s : State) : Host.Outcome State Fault Refusal := command (submit (.ok i)) s

/-! ### The line (R196, R199, R202) -/

/-- A received byte (R196). -/
def receive (b : Byte) (s : State) : State :=
  match asmByte s.flk.asm b with
  | (a, .none) => { s with flk.asm := a }
  | (a, .discard) => discard { s with flk.asm := a }
  | (a, .accept t p) => submit (decodeRequest t p) { s with flk.asm := a }

/-- A gap inside a frame (R196). -/
def byteGap (s : State) : State := if s.flk.asm = .hunt then s else discard { s with flk.asm := .hunt }

/-- A frame's last byte has gone out (R176, R197, R199): the stream's record loses its host mark, and the transmitter goes
on before the next request is looked at (notes/assumptions/17.md). -/
def frameGone (s : State) : State :=
  match s.flk.wire with
  | none => s
  | some w =>
    let s := { s with flk.wire := none, flk.busy := if w.isReply then false else s.flk.busy }
    let s := if w.stream then sweep { s with dlg.recs := clearStreamed s.dlg.recs } else s
    transmit (streamFill s)

/-- The link watchdog runs out (R202, R103). -/
def watchdogOut (s : State) : State :=
  if s.flk.wdRunning then
    let s := linkLost { s with flk.expired := true, flk.ranOut := true, flk.wdRunning := false }
    if s.live then addStriking .linkLost s else s
  else s

/-! ### The printer's inputs (R182) -/

/-- A character of the line waits at its boundary. -/
def State.charWaits (s : State) : Bool :=
  match s.pre.line, s.pre.onWire with
  | some l, none => l.rest != []
  | _, _ => false

/-- A character has been sent; BUSY as it stands then. -/
def charGone (busy : Bool) (s : State) : State :=
  let s := { s with pre.busy := busy }
  match s.pre.onWire with
  | none => s
  | some _ =>
    let s := { s with pre.onWire := none }
    match s.pre.line with
    | none => s
    | some l => if l.rest = [] then lineEnded l s else boundary s

/-- The levels of PAPER and BUSY change (notes/assumptions/10.md): the return of PAPER, or BUSY low, has a waiting character
look at the inputs. -/
def paperChanged (present busy : Bool) (s : State) : State :=
  let s := { s with pre.paper := present, pre.busy := busy }
  if s.charWaits then
    if present then (if s.pre.state = .noPaper || !busy then boundary s else s)
    else if s.pre.state = .printing ∨ s.pre.state = .stalled then haltedOr .noPaper s
    else s
  else s

/-- BUSY falls; ignored in NO_PAPER. -/
def busyFell (s : State) : State :=
  let s := { s with pre.busy := false }
  if s.charWaits && (s.pre.state == .printing || s.pre.state == .stalled) then boundary s else s

/-- The BUSY timer reaches the printer timeout. -/
def busyOut (s : State) : State := if s.pre.busyTimer then haltedOr .stalled s else s

end Sys2Proof.Machine
end

