-- ==== Sys2Proof/Machine/ResetCommands.lean ====
section
/-! DEFINITION. The reset commands. -/

namespace Sys2Proof.Machine

/-- POWER_ON (R23, R194). -/
def execPowerOn (straps : BitVec 2) (s : State) : Host.Outcome State Fault Refusal :=
  command (takeReset .powerOn straps) s

/-- RESET_PIN (R23, R194). -/
def execResetPin (straps : BitVec 2) (s : State) : Host.Outcome State Fault Refusal :=
  command (takeReset .pin straps) s

/-- RESET_ALL (R23, R203): answered when the reset batch has settled. -/
def execResetAll (s : State) : Host.Outcome State Fault Refusal := request (.resetAll) s

/-- RESET_WORK (R24, R203): answered when the reset batch has settled. -/
def execResetWork (s : State) : Host.Outcome State Fault Refusal := request (.resetWork) s

end Sys2Proof.Machine
end

