-- ==== Sys2Proof/Machine/HostRequests.lean ====
section
/-! DEFINITION. The host requests, each as the acceptance of the frame that carries it (notes/assumptions/3.md). -/

namespace Sys2Proof.Machine

/-- IDENTIFY (R204). -/
def execIdentify (s : State) : Host.Outcome State Fault Refusal := request (.identify) s

/-- CARDS (R4). -/
def execCards (s : State) : Host.Outcome State Fault Refusal := request (.cards) s

/-- POINT_WRITE (R22, R76). -/
def execPointWrite (point : Word16) (lead : Word16) (release : Byte) (s : State) : Host.Outcome State Fault Refusal :=
  request (.pointWrite point lead release) s

/-- POINT_READ (R8). -/
def execPointRead (point : Word16) (s : State) : Host.Outcome State Fault Refusal := request (.pointRead point) s

/-- NET_ERASE (R72). -/
def execNetErase (all : Byte) (id : Word16) (s : State) : Host.Outcome State Fault Refusal :=
  request (.netErase all id) s

/-- NET_WRITE (R68 to R71). -/
def execNetWrite (id : Word16) (flag : Byte) (pts : List Word16) (s : State) : Host.Outcome State Fault Refusal :=
  request (.netWrite id flag pts) s

/-- NET_READ (R73). -/
def execNetRead (id : Word16) (piece : Byte) (s : State) : Host.Outcome State Fault Refusal :=
  request (.netRead id piece) s

/-- NET_SUM (R75). -/
def execNetSum (s : State) : Host.Outcome State Fault Refusal := request (.netSum) s

/-- CAL_WRITE (R36). -/
def execCalWrite (range : Byte) (offset : Word16) (gain : Word16) (s : State) : Host.Outcome State Fault Refusal :=
  request (.calWrite range offset gain) s

/-- CAL_READ (R37). -/
def execCalRead (s : State) : Host.Outcome State Fault Refusal := request (.calRead) s

/-- PLAN_ERASE (R86). -/
def execPlanErase (s : State) : Host.Outcome State Fault Refusal := request (.planErase) s

/-- PLAN_ADD (R87 to R90). -/
def execPlanAdd (block : PlanBlock) (s : State) : Host.Outcome State Fault Refusal := request (.planAdd block) s

/-- PLAN_READ (R91). -/
def execPlanRead (index : Byte) (s : State) : Host.Outcome State Fault Refusal := request (.planRead index) s

/-- ACTIONS_WRITE (R92). -/
def execActionsWrite (acts : List Byte) (limit : Word16) (s : State) : Host.Outcome State Fault Refusal :=
  request (.actionsWrite acts limit) s

/-- START_PLAN (R94, R95). -/
def execStartPlan (s : State) : Host.Outcome State Fault Refusal := request (.startPlan) s

/-- START_LEARN (R81). -/
def execStartLearn (rlearn : Word32) (s : State) : Host.Outcome State Fault Refusal := request (.startLearn rlearn) s

/-- START_ZERO (R77). -/
def execStartZero (r : Word16) (lr : Word16) (s : State) : Host.Outcome State Fault Refusal :=
  request (.startZero r lr) s

/-- PAUSE (R99). -/
def execPause (s : State) : Host.Outcome State Fault Refusal := request (.pause) s

/-- RESUME (R99). -/
def execResume (s : State) : Host.Outcome State Fault Refusal := request (.resume) s

/-- ABORT (R101). -/
def execAbort (s : State) : Host.Outcome State Fault Refusal := request (.abort) s

/-- RUN_READ (R106). -/
def execRunRead (s : State) : Host.Outcome State Fault Refusal := request (.runRead) s

/-- PROBE (R205). -/
def execProbe (a : Word16) (b : Word16) (range : Byte) (s : State) : Host.Outcome State Fault Refusal :=
  request (.probe a b range) s

/-- DEFECT_TAKE (R175). -/
def execDefectTake (s : State) : Host.Outcome State Fault Refusal := request (.defectTake) s

/-- STREAM_SET (R176). -/
def execStreamSet (on : Byte) (s : State) : Host.Outcome State Fault Refusal := request (.streamSet on) s

/-- PRINT_SET (R191). -/
def execPrintSet (enable : Byte) (baud : Byte) (timeout : Byte) (title : List Byte) (s : State) : Host.Outcome State Fault Refusal :=
  request (.printSet enable baud timeout title) s

/-- PRINT_CANCEL (R192). -/
def execPrintCancel (s : State) : Host.Outcome State Fault Refusal := request (.printCancel) s

/-- HV_RELEASE (R153). -/
def execHvRelease (s : State) : Host.Outcome State Fault Refusal := request (.hvRelease) s

/-- SAFETY_READ (R154). -/
def execSafetyRead (s : State) : Host.Outcome State Fault Refusal := request (.safetyRead) s

/-- NOTICE_SET (R200). -/
def execNoticeSet (mask : Byte) (s : State) : Host.Outcome State Fault Refusal := request (.noticeSet mask) s

/-- WATCHDOG_SET (R202). -/
def execWatchdogSet (seconds : Byte) (s : State) : Host.Outcome State Fault Refusal :=
  request (.watchdogSet seconds) s

/-- UNKNOWN (R198). -/
def execUnknown (type : Byte) (s : State) : Host.Outcome State Fault Refusal := request (.unknown type) s

end Sys2Proof.Machine
end

