-- ==== Sys2Proof/Machine/HostLine.lean ====
section
/-! DEFINITION. The commands of the host line. -/

namespace Sys2Proof.Machine

/-- RECEIVED_BYTE (R196). -/
def execReceivedByte (b : Byte) (s : State) : Host.Outcome State Fault Refusal := command (receive b) s

/-- INTER_BYTE_GAP_TIMEOUT (R196). -/
def execInterByteGapTimeout (s : State) : Host.Outcome State Fault Refusal := command byteGap s

/-- FRAME_SENT (R199). -/
def execFrameSent (s : State) : Host.Outcome State Fault Refusal := command frameGone s

/-- LINK_WATCHDOG_EXPIRY (R202, R151, R103). -/
def execLinkWatchdogExpiry (s : State) : Host.Outcome State Fault Refusal := command watchdogOut s

end Sys2Proof.Machine
end

