-- ==== Sys2Proof/Machine/Backplane.lean ====
section
/-! DEFINITION. The commands of the backplane and the matrix. -/

namespace Sys2Proof.Machine

/-- SCAN_DESCRIPTOR (R2, R3). -/
def execScanDescriptor (d : Answer) (checkPassed : Bool) (s : State) : Host.Outcome State Fault Refusal :=
  command (scanStep fun slot => accepted d slot checkPassed) s

/-- SCAN_PROBE_TIMEOUT (R2). -/
def execScanProbeTimeout (s : State) : Host.Outcome State Fault Refusal := command (scanStep fun _ => none) s

/-- BATCH_REQUEST (R9 to R13). -/
def execBatchRequest (s : State) : Host.Outcome State Fault Refusal := command batchTake s

/-- CARD_ACKNOWLEDGE (R14, R15). It is one whose backplane check has passed: DESIGN CHOICE, notes/assumptions/50.md, an answer
whose check fails is as none, and the time out follows. -/
def execCardAcknowledge (point : Nat) (side : Side) (s : State) : Host.Outcome State Fault Refusal :=
  command (acknowledge point side) s

/-- CARD_ACK_TIMEOUT (R19). -/
def execCardAckTimeout (slot : Nat) (s : State) : Host.Outcome State Fault Refusal := command (ackTimeout slot) s

/-- OPEN_PHASE_WAIT_END (R14, R21). -/
def execOpenPhaseWaitEnd (s : State) : Host.Outcome State Fault Refusal := command (waitEnd .openWait) s

/-- CLOSE_PHASE_WAIT_END (R15). -/
def execClosePhaseWaitEnd (s : State) : Host.Outcome State Fault Refusal := command (waitEnd .closeWait) s

/-- READBACK_REPORT (R16 to R18). It is one whose backplane check has passed (DESIGN CHOICE, notes/assumptions/50.md). -/
def execReadbackReport (slot : Nat) (aCoils : BitVec 64) (bCoils : BitVec 64) (s : State) : Host.Outcome State Fault Refusal :=
  command (readback slot aCoils bCoils) s

/-- READBACK_TIMEOUT (R16, R19). -/
def execReadbackTimeout (slot : Nat) (s : State) : Host.Outcome State Fault Refusal := command (readbackLost slot) s

end Sys2Proof.Machine
end

