-- ==== Sys2Proof/Machine/Measurement.lean ====
section
/-! DEFINITION. The commands of the measurement unit. -/

namespace Sys2Proof.Machine

/-- WINDOW_OPEN (R29). -/
def execWindowOpen (s : State) : Host.Outcome State Fault Refusal := command windowTake s

/-- SETTLE_TIME_END (R29, R31). -/
def execSettleTimeEnd (s : State) : Host.Outcome State Fault Refusal := command settleEnd s

/-- SAMPLE (R30). -/
def execSample (raw : Word16) (s : State) : Host.Outcome State Fault Refusal := command (sampleIn raw) s

/-- INSULATION_READING (R34). -/
def execInsulationReading (leak : Word16) (hvm : Word16) (s : State) : Host.Outcome State Fault Refusal :=
  command (insulationIn leak hvm) s

/-- BUS_MONITOR_READING (R28, R131, R135). -/
def execBusMonitorReading (raw : Word16) (s : State) : Host.Outcome State Fault Refusal := command (busReading raw) s

end Sys2Proof.Machine
end

