-- ==== Sys2Proof/Machine/Energisation.lean ====
section
/-! DEFINITION. The commands of the high-voltage controller. -/

namespace Sys2Proof.Machine

/-- ENERGISATION_ENABLE (R130). -/
def execEnergisationEnable (s : State) : Host.Outcome State Fault Refusal := command energisationTake s

/-- RAMP_TICK (R133). -/
def execRampTick (s : State) : Host.Outcome State Fault Refusal := command Sys2Proof.Machine.rampTick s

/-- RAMP_CHECK (R133, R143). -/
def execRampCheck (s : State) : Host.Outcome State Fault Refusal := command Sys2Proof.Machine.rampCheck s

/-- DWELL_TICK (R134, R144). -/
def execDwellTick (s : State) : Host.Outcome State Fault Refusal := command Sys2Proof.Machine.dwellTick s

/-- DWELL_TIME_OUT (R134, R144). -/
def execDwellTimeOut (s : State) : Host.Outcome State Fault Refusal := command Sys2Proof.Machine.dwellTimeOut s

/-- FAST_READING (R132, R138, R139). -/
def execFastReading (nanoamps : Nat) (s : State) : Host.Outcome State Fault Refusal :=
  command (Sys2Proof.Machine.fastReading nanoamps) s

/-- DISCHARGE_FAULT (R136). -/
def execDischargeFault (s : State) : Host.Outcome State Fault Refusal := command Sys2Proof.Machine.dischargeFault s

/-- GUARD_OPEN (R150, R103). -/
def execGuardOpen (s : State) : Host.Outcome State Fault Refusal := command guardOpened s

/-- GUARD_CLOSE (R150). -/
def execGuardClose (s : State) : Host.Outcome State Fault Refusal := command guardClosedIn s

end Sys2Proof.Machine
end

