-- ==== Sys2Proof/Machine/Printer.lean ====
section
/-! DEFINITION. The commands of the printer. -/

namespace Sys2Proof.Machine

/-- CHARACTER_SENT (R182). -/
def execCharacterSent (busy : Bool) (s : State) : Host.Outcome State Fault Refusal := command (charGone busy) s

/-- PAPER_CHANGE (R182). -/
def execPaperChange (present : Bool) (busy : Bool) (s : State) : Host.Outcome State Fault Refusal :=
  command (paperChanged present busy) s

/-- BUSY_FALL (R182). -/
def execBusyFall (s : State) : Host.Outcome State Fault Refusal := command busyFell s

/-- BUSY_TIMEOUT (R182). -/
def execBusyTimeout (s : State) : Host.Outcome State Fault Refusal := command busyOut s

end Sys2Proof.Machine
end

