-- ==== Sys2Proof/Machine/Dispatch.lean ====
section
/-! DEFINITION. The dispatch of every command to its meaning. -/

namespace Sys2Proof.Machine

def exec (i : Instr) (s : State) : Host.Outcome State Fault Refusal :=
  match i with
  | .powerOn straps => Sys2Proof.Machine.execPowerOn straps s
  | .resetPin straps => Sys2Proof.Machine.execResetPin straps s
  | .resetAll => Sys2Proof.Machine.execResetAll s
  | .resetWork => Sys2Proof.Machine.execResetWork s
  | .identify => Sys2Proof.Machine.execIdentify s
  | .cards => Sys2Proof.Machine.execCards s
  | .pointWrite point lead release => Sys2Proof.Machine.execPointWrite point lead release s
  | .pointRead point => Sys2Proof.Machine.execPointRead point s
  | .netErase all id => Sys2Proof.Machine.execNetErase all id s
  | .netWrite id flag pts => Sys2Proof.Machine.execNetWrite id flag pts s
  | .netRead id piece => Sys2Proof.Machine.execNetRead id piece s
  | .netSum => Sys2Proof.Machine.execNetSum s
  | .calWrite range offset gain => Sys2Proof.Machine.execCalWrite range offset gain s
  | .calRead => Sys2Proof.Machine.execCalRead s
  | .planErase => Sys2Proof.Machine.execPlanErase s
  | .planAdd block => Sys2Proof.Machine.execPlanAdd block s
  | .planRead index => Sys2Proof.Machine.execPlanRead index s
  | .actionsWrite acts limit => Sys2Proof.Machine.execActionsWrite acts limit s
  | .startPlan => Sys2Proof.Machine.execStartPlan s
  | .startLearn rlearn => Sys2Proof.Machine.execStartLearn rlearn s
  | .startZero r lr => Sys2Proof.Machine.execStartZero r lr s
  | .pause => Sys2Proof.Machine.execPause s
  | .resume => Sys2Proof.Machine.execResume s
  | .abort => Sys2Proof.Machine.execAbort s
  | .runRead => Sys2Proof.Machine.execRunRead s
  | .probe a b range => Sys2Proof.Machine.execProbe a b range s
  | .defectTake => Sys2Proof.Machine.execDefectTake s
  | .streamSet on => Sys2Proof.Machine.execStreamSet on s
  | .printSet enable baud timeout title => Sys2Proof.Machine.execPrintSet enable baud timeout title s
  | .printCancel => Sys2Proof.Machine.execPrintCancel s
  | .hvRelease => Sys2Proof.Machine.execHvRelease s
  | .safetyRead => Sys2Proof.Machine.execSafetyRead s
  | .noticeSet mask => Sys2Proof.Machine.execNoticeSet mask s
  | .watchdogSet seconds => Sys2Proof.Machine.execWatchdogSet seconds s
  | .unknown type => Sys2Proof.Machine.execUnknown type s
  | .receivedByte b => Sys2Proof.Machine.execReceivedByte b s
  | .interByteGapTimeout => Sys2Proof.Machine.execInterByteGapTimeout s
  | .frameSent => Sys2Proof.Machine.execFrameSent s
  | .linkWatchdogExpiry => Sys2Proof.Machine.execLinkWatchdogExpiry s
  | .scanDescriptor d checkPassed => Sys2Proof.Machine.execScanDescriptor d checkPassed s
  | .scanProbeTimeout => Sys2Proof.Machine.execScanProbeTimeout s
  | .batchRequest => Sys2Proof.Machine.execBatchRequest s
  | .cardAcknowledge point side => Sys2Proof.Machine.execCardAcknowledge point side s
  | .cardAckTimeout slot => Sys2Proof.Machine.execCardAckTimeout slot s
  | .openPhaseWaitEnd => Sys2Proof.Machine.execOpenPhaseWaitEnd s
  | .closePhaseWaitEnd => Sys2Proof.Machine.execClosePhaseWaitEnd s
  | .readbackReport slot aCoils bCoils => Sys2Proof.Machine.execReadbackReport slot aCoils bCoils s
  | .readbackTimeout slot => Sys2Proof.Machine.execReadbackTimeout slot s
  | .windowOpen => Sys2Proof.Machine.execWindowOpen s
  | .settleTimeEnd => Sys2Proof.Machine.execSettleTimeEnd s
  | .sample raw => Sys2Proof.Machine.execSample raw s
  | .insulationReading leak hvm => Sys2Proof.Machine.execInsulationReading leak hvm s
  | .busMonitorReading raw => Sys2Proof.Machine.execBusMonitorReading raw s
  | .energisationEnable => Sys2Proof.Machine.execEnergisationEnable s
  | .rampTick => Sys2Proof.Machine.execRampTick s
  | .rampCheck => Sys2Proof.Machine.execRampCheck s
  | .dwellTick => Sys2Proof.Machine.execDwellTick s
  | .dwellTimeOut => Sys2Proof.Machine.execDwellTimeOut s
  | .fastReading nanoamps => Sys2Proof.Machine.execFastReading nanoamps s
  | .dischargeFault => Sys2Proof.Machine.execDischargeFault s
  | .guardOpen => Sys2Proof.Machine.execGuardOpen s
  | .guardClose => Sys2Proof.Machine.execGuardClose s
  | .characterSent busy => Sys2Proof.Machine.execCharacterSent busy s
  | .paperChange present busy => Sys2Proof.Machine.execPaperChange present busy s
  | .busyFall => Sys2Proof.Machine.execBusyFall s
  | .busyTimeout => Sys2Proof.Machine.execBusyTimeout s

end Sys2Proof.Machine
end

