-- ==== Sys2Proof/WellFormed.lean ====
section
/-! DEFINITION. Which commands a sender can send: operands in the ranges their fields have. -/

namespace Sys2Proof

/-- A PLAN-ADD payload that a frame can carry (R195, R206): at most 249 bytes, and an uncoded kind only where it is none of
the three. -/
def PlanBlock.wellFormed : PlanBlock → Bool
  | .cont _ => true
  | .insul _ => true
  | .watch b => b.pairs.length ≤ 57
  | .other kind rest => 2 < kind.toNat && rest.length ≤ 248

/-- A command whose operands its sender can produce: payloads a frame can carry (R195, R206), a type outside the 32
(R198), points and slots of the backplane (R1, R5). -/
def Instr.wellFormed : Instr → Bool
  | .netWrite _ _ pts => pts.length ≤ 122
  | .planAdd b => b.wellFormed
  | .actionsWrite acts _ => acts.length == 11
  | .printSet _ _ _ title => title.length ≤ 245
  | .unknown t => t == 0#8 || 32 < t.toNat
  | .cardAcknowledge point _ => point < Config.points
  | .cardAckTimeout slot => slot < Config.slots
  | .readbackReport slot _ _ => slot < Config.slots
  | .readbackTimeout slot => slot < Config.slots
  | .powerOn _ => true
  | .resetPin _ => true
  | .resetAll => true
  | .resetWork => true
  | .identify => true
  | .cards => true
  | .pointWrite _ _ _ => true
  | .pointRead _ => true
  | .netErase _ _ => true
  | .netRead _ _ => true
  | .netSum => true
  | .calWrite _ _ _ => true
  | .calRead => true
  | .planErase => true
  | .planRead _ => true
  | .startPlan => true
  | .startLearn _ => true
  | .startZero _ _ => true
  | .pause => true
  | .resume => true
  | .abort => true
  | .runRead => true
  | .probe _ _ _ => true
  | .defectTake => true
  | .streamSet _ => true
  | .printCancel => true
  | .hvRelease => true
  | .safetyRead => true
  | .noticeSet _ => true
  | .watchdogSet _ => true
  | .receivedByte _ => true
  | .interByteGapTimeout => true
  | .frameSent => true
  | .linkWatchdogExpiry => true
  | .scanDescriptor _ _ => true
  | .scanProbeTimeout => true
  | .batchRequest => true
  | .openPhaseWaitEnd => true
  | .closePhaseWaitEnd => true
  | .windowOpen => true
  | .settleTimeEnd => true
  | .sample _ => true
  | .insulationReading _ _ => true
  | .busMonitorReading _ => true
  | .energisationEnable => true
  | .rampTick => true
  | .rampCheck => true
  | .dwellTick => true
  | .dwellTimeOut => true
  | .fastReading _ => true
  | .dischargeFault => true
  | .guardOpen => true
  | .guardClose => true
  | .characterSent _ => true
  | .paperChange _ _ => true
  | .busyFall => true
  | .busyTimeout => true

end Sys2Proof
end

