-- ==== Sys2Proof/Safety.lean ====
section
/-! DEFINITION. The laws of the device that the manual states in its prose, as predicates of a state; and the quiet states in which a command's own effect is all that happens. -/

namespace Sys2Proof.Machine

/-- A quarantined or absent point is OPEN (R6). -/
def State.pointLaw (s : State) : Prop := ∀ p, s.conn p ≠ .opn → s.usable p = true

/-- The HV source is enabled only while the guard is closed, both latches are clear and the link has not expired (R130). -/
def State.sourceLaw (s : State) : Prop :=
  s.hvc.sourceOn = true →
    s.hvc.guardClosed = true ∧ s.hvc.tripLatch = false ∧ s.hvc.dischLatch = false ∧ s.hvc.linkExpired = false

/-- The source gate and the HV source are never open together (R33). -/
def State.gateLaw (s : State) : Prop := s.msu.gateOpen = true → s.hvc.sourceOn = false

/-- The defect log holds at most 256 records, a reserved slot counted (R172, R173). -/
def State.logLaw (s : State) : Prop := s.dlg.recs.length + (if s.dlg.reserved then 1 else 0) ≤ 256

/-- The plan holds at most 32 steps (R86). -/
def State.planLaw (s : State) : Prop := s.rnc.plan.length ≤ 32

/-- The request list holds at most four requests (R197), the discard count at most 65535 (R196), the watchdog period at
most 60 s (R202). -/
def State.linkLaw (s : State) : Prop :=
  s.flk.requests.length ≤ 4 ∧ s.flk.discards ≤ 65535 ∧ s.flk.wdPeriod ≤ 60

/-- While the matrix is moving the source gate is closed and the HV source disabled (R13). -/
def State.movingLaw (s : State) : Prop := s.moving = true → s.msu.window = none ∧ s.hvc.sourceOn = false

/-- The HV source is disabled while no run is active, in ENDING, and while a run closes out (R103, R101). -/
def State.closedLaw (s : State) : Prop :=
  (s.rnc.state ≠ .running ∧ s.rnc.state ≠ .held) ∨ s.rnc.verdict ≠ .none → s.hvc.sourceOn = false

/-- The defect limit is at least 1 (R92); an active run's total is at most the limit, and below it until the run has taken its
end cause (R100). Only a run that closes out waits for the bus (R104). -/
def State.limitLaw (s : State) : Prop :=
  1 ≤ s.rnc.limit ∧ (s.active = true → s.rnc.total ≤ s.rnc.limit) ∧ (s.live = true → s.rnc.total < s.rnc.limit) ∧
    (Waiter.rnc ∈ s.hvc.waiters → s.rnc.state = .running ∧ s.rnc.verdict ≠ .none)

/-- Every record in the log holds a mark, and the record in the entry place its host mark (R172, R173). -/
def State.marksLaw (s : State) : Prop :=
  (∀ r ∈ s.dlg.recs, r.host = true ∨ r.print = true) ∧ ∀ r, s.dlg.entry = some r → r.host = true

/-- At most two summary slots are occupied (R184). -/
def State.slotsLaw (s : State) : Prop := s.pre.slots.length ≤ 2

/-- A card scan probes one of the 64 slots, within a reset and with no batch in flight (R2, R23, R24). -/
def State.scanLaw (s : State) : Prop :=
  ∀ sc, s.mxc.scan = some sc → sc.slot < Config.slots ∧ s.resetting ≠ none ∧ s.mxc.batch = none

/-- The print engine has nothing to send (R186): no slot is occupied, or the current slot's header is printed, no record of
its run in the log waits for print, and its run has not ended or still has a print-marked record. -/
def State.nothingToPrint (s : State) : Prop :=
  s.pre.slots = [] ∨
  ∃ t ts, s.pre.slots = t :: ts ∧ t.header = true ∧ takePrint t.runNo s.dlg.recs = none ∧
    (t.ended = none ∨ runMarked t.runNo s ≠ 0)

/-- Nothing waits to be done by an engine, the printer, the stream, or the end of a struck energisation. -/
def State.settled (s : State) : Prop :=
  s.todo = [] ∧ (s.pre.state = .idle → s.nothingToPrint) ∧
    (s.dlg.streaming = false ∨ ∀ r ∈ s.dlg.recs, r.host = true → r.inStream = true) ∧
    (s.rnc.struck = true → s.hvc.energised = true)

/-- A settled state in which the request list is empty: an event's own effect is all that happens, but for the
transmitter. -/
def State.calm (s : State) : Prop := s.settled ∧ s.flk.requests = []

/-- A calm state in which a request is taken and answered at once: no request in progress, no frame on the wire, no reply
placed, no reset in progress. -/
def State.quiet (s : State) : Prop :=
  s.calm ∧ s.flk.busy = false ∧ s.flk.wire = none ∧ s.flk.reply = none ∧ s.resetting = none

/-- The state in which an accepted request is carried out: the watchdog reloaded, the request in progress (R197, R202). -/
def State.taken (s : State) : State :=
  { s with
    flk.busy := true
    flk.wdRunning := s.flk.wdPeriod != 0
    flk.expired := false
    flk.ranOut := false
    hvc.linkExpired := if s.flk.expired then false else s.hvc.linkExpired }

/-- The transmitter holding a reply. -/
def replyWire (f : Frame) : Option Wire := some { frame := f, isReply := true, stream := false }

/-- A reply on the wire (R199). -/
def State.replied (f : Frame) (s : State) : State :=
  { s with flk.wire := replyWire f }

/-- An accepted request answered at once, its owner having changed nothing (R197, R198). -/
def State.answered (type : Byte) (payload : List Byte) (s : State) : State := s.taken.replied (replyFrame type payload)

/-- A refused request: a REFUSED frame, and no other change than the watchdog's (R198). -/
def State.refusedWith (type : Byte) (c : RefusalCode) (s : State) : State := s.taken.replied (refusedFrame type c)

/-! ### A run that goes on -/

/-- A live run whose next permit at low voltage is granted, even after one more record (R97). -/
def State.unhindered (s : State) : Prop :=
  s.rnc.state = .running ∧ s.rnc.verdict = .none ∧ s.rnc.hold = .empty ∧ s.dlg.entry = none ∧ s.dlg.heldBack = none ∧
    s.dlg.recs.length < 255

/-- A record of this kind is logged and nothing more: its action is LOG, and it does not reach the limit (R100). -/
def State.onlyLogged (k : DefectKind) (s : State) : Prop :=
  s.rnc.actions.get k.idx = .log ∧ s.rnc.total + 1 ≠ s.rnc.limit

/-- The reasons that the boundary checks of a permit find (R97). -/
def State.checks (k : UnitKind) (s : State) : HoldSet :=
  { pause := false, operator := false, logFull := s.dlg.entry.isSome || decide (256 ≤ s.dlg.recs.length),
    guard := k == .insulation && !s.hvc.guardClosed, linkLost := k == .insulation && s.hvc.linkExpired,
    tripLatched := k == .insulation && s.hvc.tripLatch }

/-- The reasons of two hold sets together. -/
def HoldSet.join (h g : HoldSet) : HoldSet :=
  { pause := h.pause || g.pause, operator := h.operator || g.operator, logFull := h.logFull || g.logFull,
    guard := h.guard || g.guard, linkLost := h.linkLost || g.linkLost, tripLatched := h.tripLatched || g.tripLatched }

/-- The batch of a search that waits for its caller's PROCEED: the driven points against its interval (R54, R55). -/
def Gsu.nextBatch (g : Gsu) : Option BatchReq :=
  if g.state = .asking ∨ g.state = .parked then
    g.cur.map fun iv => { a := g.driven, b := (g.cands.drop iv.1).take (iv.2 - iv.1), run := true, who := .gsu }
  else none

/-- The batch that the engine waiting for a permit asks for when it is granted (R142, R160, R113, R117, R78, R82); none for a
record-only unit. -/
def State.waitingBatch (s : State) : Option BatchReq :=
  match s.ise, s.wte, s.cte with
  | some j, _, _ => match j.stage with
    | .unit => some { a := s.members j.net, b := j.cands, run := true, who := .ise }
    | .localise => s.gsu.nextBatch
    | _ => none
  | none, some j, _ =>
    if j.stage = .sampling ∧ j.recOnly = false then
      some { a := [j.pair.a], b := [j.pair.b], run := true, who := .wte }
    else none
  | none, none, .cont j => match j.stage with
    | .pairs => if j.recOnly then none else some { a := [j.anchor], b := [j.cursor], run := true, who := .cte }
    | .shorts => s.gsu.nextBatch
    | _ => none
  | none, none, .zero j => some { a := [j.r], b := [j.cursor], run := true, who := .cte }
  | none, none, .learn _ => s.gsu.nextBatch
  | none, none, .none => none

/-- What the return of a HELD run to RUNNING makes of `s`, within the same step (R98, R97): without an engine that waits for
a permit nothing more; with one, HELD again by what the boundary checks find, or the permit granted and the unit's batch
asked for. A record-only unit makes its record and goes on to the next, so of it only the run's figures are said. -/
def State.wentOn (s t : State) : Prop :=
  let k := match s.ise with
    | some j => if j.stage = .unit ∨ j.stage = .localise then UnitKind.insulation else .low
    | none => .low
  (s.rnc.waits = false → t.rnc = { s.rnc with hold := .empty, state := .running } ∧ t.dlg = s.dlg ∧ t.mxc = s.mxc) ∧
  (s.rnc.waits = true → s.dlg.heldBack = none →
    (s.checks k ≠ .empty →
      t.rnc = { s.rnc with hold := s.checks k, unit := none } ∧ t.dlg = { s.dlg with reserved := false } ∧ t.mxc = s.mxc) ∧
    (s.checks k = .empty →
      (∀ r, s.waitingBatch = some r →
        t.rnc = { s.rnc with hold := .empty, state := .running, waits := false, unit := some k } ∧
        t.dlg = { s.dlg with reserved := true } ∧ t.mxc = { s.mxc with held := s.mxc.held ++ [r] }) ∧
      t.rnc.hold.pause = false ∧ t.rnc.runNo = s.rnc.runNo ∧ t.rnc.clock = s.rnc.clock))

/-- What a run becomes when reasons leave its hold set and `h` is left (R98). -/
def State.releasedTo (h : HoldSet) (s t : State) : Prop :=
  (¬(s.rnc.state = .held ∧ h = .empty) → t.rnc = { s.rnc with hold := h } ∧ t.dlg = s.dlg ∧ t.mxc = s.mxc) ∧
  (s.rnc.state = .held → h = .empty → s.wentOn t)

end Sys2Proof.Machine
end

