-- ==== Sys2Proof/Certificates/Slice0/Obligations.lean ====
section
/-! DEFINITION. The statements for the provers, one Prop each. -/

open Sys2Proof Sys2Proof.Machine

/-! ### Steps -/

/-- A step carries out the command at the front of the queue with the queue's rest; on an empty queue the block idles
(notes/assumptions/2.md). -/
def Obligations.StepTakesTheFrontCommand : Prop :=
  ∀ (c : Instr) (rest : List Instr) (s : State),
    step { s with pending := c :: rest } = exec c { s with pending := rest } ∧
    (s.pending = [] → step s = .next s)

/-! ### Requests that read -/

/-- R204, R75, R106: IDENTIFY, NET-SUM and RUN-READ are answered at once with their payloads and change nothing but what
every accepted frame changes. -/
def Obligations.ReadRequestsAnswerAtOnce : Prop :=
  ∀ s : State, s.quiet →
    exec .identify s = .next (s.answered 0x01#8 (identifyPayload s)) ∧
    exec .netSum s = .next (s.answered 0x08#8 (netSumPayload s)) ∧
    exec .runRead s = .next (s.answered 0x15#8 (runReadPayload s))

/-- R4 with the entry bytes of R206: all 64 entries in slot order, zero descriptor fields for an ABSENT slot. -/
def Obligations.CardsGivesAllSlotsInOrder : Prop :=
  ∀ s : State, s.quiet →
    exec .cards s = .next (s.answered 0x02#8 ((List.range 64).flatMap fun k =>
      match s.card k with
      | .absent => [2#8, 0#8]
      | .present d => [if d.ctype = .high then 4#8 else 0#8, BitVec.ofNat 8 (d.operate.toNat + 16 * d.release.toNat)]
      | .lost d => [if d.ctype = .high then 5#8 else 1#8, BitVec.ofNat 8 (d.operate.toNat + 16 * d.release.toNat)]))

/-- R37: all seven entries in index order, each offset, gain and uncalibrated flag. The model's choice,
notes/assumptions/14.md: the uncalibrated byte is 1 for yes. -/
def Obligations.CalReadGivesSevenEntries : Prop :=
  ∀ s : State, s.quiet →
    exec .calRead s = .next (s.answered 0x0A#8
      (([s.msu.cal.cr0, s.msu.cal.cr1, s.msu.cal.cr2, s.msu.cal.ir0, s.msu.cal.ir1, s.msu.cal.ir2, s.msu.cal.hvm].map
        fun e => le16 (BitVec.ofInt 16 e.offset).toNat ++ le16 (BitVec.ofInt 16 e.gain).toNat ++
          [if e.uncal then 1#8 else 0#8]).flatten))

/-- R8: a point's presence, connection, quarantine, net and lead value; any point above 4095 is refused with BAD_ARG.
The model's choice, notes/assumptions/14.md: the presence byte is 1 for present. -/
def Obligations.PointReadGivesThePoint : Prop :=
  ∀ (s : State) (p : Word16), s.quiet →
    exec (.pointRead p) s = .next
      (if p.toNat < 4096 then
        s.answered 0x04#8 (le16 p.toNat ++ [if s.present p.toNat then 1#8 else 0#8] ++ le8 (s.conn p.toNat).code ++
          le8 (s.quar p.toNat).code ++ le16 (s.netOf p.toNat) ++ le16 (s.lead p.toNat))
      else s.refusedWith 0x04#8 .badArg)

/-- R91: the number of steps and, below it, the step's kind and stored parameters. -/
def Obligations.PlanReadGivesTheStep : Prop :=
  ∀ (s : State) (i : Byte), s.quiet →
    exec (.planRead i) s = .next (s.answered 0x0D#8 (le8 s.rnc.plan.length ++
      (if h : i.toNat < s.rnc.plan.length then (s.rnc.plan[i.toNat]).bytes else [])))

/-- R73: one piece of 120 points of a net's members; an id outside 1 to 1024 or a piece above 34 is refused. The
model's choice, notes/assumptions/14.md: the byte for a defined net is 1 for yes. -/
def Obligations.NetReadGivesOnePiece : Prop :=
  ∀ (s : State) (id : Word16) (piece : Byte), s.quiet →
    exec (.netRead id piece) s = .next
      (if id.toNat = 0 ∨ 1024 < id.toNat ∨ 34 < piece.toNat then s.refusedWith 0x07#8 .badArg
      else
        let ms := s.members id.toNat
        let ps := (ms.drop (120 * piece.toNat)).take 120
        s.answered 0x07#8 (le16 id.toNat ++ [if ms = [] then 0#8 else 1#8] ++ le16 ms.length ++ le16 (ms.headD 0) ++
          le8 piece.toNat ++ le8 ps.length ++ ps.flatMap le16))

/-! ### Requests that write -/

/-- R22, R76: POINT-WRITE's checks in order; an accepted one stores the lead value and, with the release flag set, clears
the quarantine; nothing else changes. -/
def Obligations.PointWriteStoresLeadAndReleases : Prop :=
  ∀ (s : State) (p l : Word16) (r : Byte), s.quiet →
    exec (.pointWrite p l r) s = .next
      (if s.active then s.refusedWith 0x03#8 .busy
      else if 4096 ≤ p.toNat ∨ 1 < r.toNat then s.refusedWith 0x03#8 .badArg
      else if s.present p.toNat = false then s.refusedWith 0x03#8 .absentPoint
      else if r = 1#8 ∧ (s.card (p.toNat / 64)).isLost = true then s.refusedWith 0x03#8 .state
      else
        { s.answered 0x03#8 (le16 p.toNat ++ le16 l.toNat ++ le8 (if r = 1#8 then Quar.none else s.quar p.toNat).code) with
          nst := { s.nst with leads := s.nst.leads.set 0 p.toNat l.toNat }
          mxc := { s.mxc with quar := if r = 1#8 then s.mxc.quar.set .none p.toNat .none else s.mxc.quar } })

/-- R72: NET-ERASE of one net or of all, with the numbers of nets removed and points made orphan. -/
def Obligations.NetEraseUndefinesNets : Prop :=
  ∀ (s : State) (all : Byte) (id : Word16), s.quiet →
    exec (.netErase all id) s = .next
      (if s.active then s.refusedWith 0x05#8 .busy
      else if all = 1#8 then
        { s.answered 0x05#8 (le16 s.nst.nets.length ++ le16 (s.nst.nets.map fun e => e.2.length).sum) with
          nst := { s.nst with nets := [] } }
      else if all ≠ 0#8 ∨ id.toNat = 0 ∨ 1024 < id.toNat then s.refusedWith 0x05#8 .badArg
      else
        { s.answered 0x05#8 (le16 (if s.members id.toNat = [] then 0 else 1) ++ le16 (s.members id.toNat).length) with
          nst := { s.nst with nets := s.nst.nets.set [] id.toNat [] } })

/-- R68: the six checks of NET-WRITE in order; a refused write leaves the table unchanged. The model's choice,
notes/assumptions/15.md: NEW is flag 0, APPEND flag 1. -/
def Obligations.NetWriteChecksInOrder : Prop :=
  ∀ (s : State) (id : Word16) (flag : Byte) (pts : List Word16), s.quiet →
    let c1 : Prop := s.active = true
    let c2 : Prop := id.toNat = 0 ∨ 1024 < id.toNat ∨ 1 < flag.toNat ∨ pts = [] ∨ 120 < pts.length ∨
      ∃ p ∈ pts, 4096 ≤ p.toNat
    let c3 : Prop := flag = 1#8 ∧ s.members id.toNat = []
    let c4 : Prop := ∃ p ∈ pts, s.present p.toNat = false
    let c5 : Prop := ∃ p ∈ pts, s.netOf p.toNat ≠ 0 ∧ s.netOf p.toNat ≠ id.toNat
    let c6 : Prop := flag = 0#8 ∧ s.members id.toNat = [] ∧ 1024 ≤ s.nst.nets.length
    (c1 → exec (.netWrite id flag pts) s = .next (s.refusedWith 0x06#8 .busy)) ∧
    (¬c1 → c2 → exec (.netWrite id flag pts) s = .next (s.refusedWith 0x06#8 .badArg)) ∧
    (¬c1 → ¬c2 → c3 → exec (.netWrite id flag pts) s = .next (s.refusedWith 0x06#8 .state)) ∧
    (¬c1 → ¬c2 → ¬c3 → c4 → exec (.netWrite id flag pts) s = .next (s.refusedWith 0x06#8 .absentPoint)) ∧
    (¬c1 → ¬c2 → ¬c3 → ¬c4 → c5 → exec (.netWrite id flag pts) s = .next (s.refusedWith 0x06#8 .conflict)) ∧
    (¬c1 → ¬c2 → ¬c3 → ¬c4 → ¬c5 → c6 → exec (.netWrite id flag pts) s = .next (s.refusedWith 0x06#8 .noRoom))

/-- R69, R70, R71: an accepted NET-WRITE makes the net's members the listed points (NEW), or adds them (APPEND), ascending
and without repeats; the reply counts what was added and what was ignored. The model's choice, notes/assumptions/15.md: NEW
is flag 0, APPEND flag 1. -/
def Obligations.NetWriteBuildsTheNet : Prop :=
  ∀ (s : State) (id : Word16) (flag : Byte) (pts : List Word16), s.quiet → s.active = false →
    1 ≤ id.toNat → id.toNat ≤ 1024 → flag.toNat ≤ 1 → pts ≠ [] → pts.length ≤ 120 →
    (∀ p ∈ pts, p.toNat < 4096 ∧ s.present p.toNat = true ∧ (s.netOf p.toNat = 0 ∨ s.netOf p.toNat = id.toNat)) →
    (flag = 1#8 → s.members id.toNat ≠ []) → (s.members id.toNat = [] → s.nst.nets.length < 1024) →
    (s.members id.toNat).Pairwise (· < ·) →
    ∃ ms : List Nat, ms.Pairwise (· < ·) ∧
      (∀ q, q ∈ ms ↔ q ∈ pts.map BitVec.toNat ∨ (flag = 1#8 ∧ q ∈ s.members id.toNat)) ∧
      exec (.netWrite id flag pts) s = .next
        (let added := ms.length - (if flag = 1#8 then (s.members id.toNat).length else 0)
        { s.answered 0x06#8 (le16 id.toNat ++ le8 added ++ le8 (pts.length - added) ++ le16 ms.length ++
            le16 (ms.headD 0)) with
          nst := { s.nst with nets := s.nst.nets.set [] id.toNat ms } })

/-- R36: CAL-WRITE clamps and stores one entry and clears its uncalibrated flag. -/
def Obligations.CalWriteStoresClampedEntry : Prop :=
  ∀ (s : State) (range : Byte) (offset gain : Word16), s.quiet →
    exec (.calWrite range offset gain) s = .next
      (if s.active then s.refusedWith 0x09#8 .busy
      else if 6 < range.toNat then s.refusedWith 0x09#8 .badArg
      else
        let e : CalEntry := { offset := max (-2048) (min 2047 offset.toInt), gain := max (-16384) (min 16383 gain.toInt),
                              uncal := false }
        { s.answered 0x09#8 (le8 range.toNat ++ le16 (BitVec.ofInt 16 e.offset).toNat ++
            le16 (BitVec.ofInt 16 e.gain).toNat) with
          msu := { s.msu with cal := s.msu.cal.setIdx range.toNat e } })

/-- R86, R87: PLAN-ERASE empties the plan and answers the number of steps removed; the checks of PLAN-ADD in order, and an
accepted one appends the step as stored. -/
def Obligations.PlanIsErasedAndGrown : Prop :=
  ∀ (s : State) (b : PlanBlock), s.quiet →
    exec .planErase s = .next
      (if s.active then s.refusedWith 0x0B#8 .busy
      else { s.answered 0x0B#8 (le8 s.rnc.plan.length) with rnc := { s.rnc with plan := [] } }) ∧
    exec (.planAdd b) s = .next
      (if s.active then s.refusedWith 0x0C#8 .busy
      else match storedStep b with
        | none => s.refusedWith 0x0C#8 .badArg
        | some st =>
          if 32 ≤ s.rnc.plan.length then s.refusedWith 0x0C#8 .noRoom
          else if (match st with
            | .watch p => p.pairs.any fun q => !(s.present q.1 && s.present q.2)
            | _ => false) then s.refusedWith 0x0C#8 .absentPoint
          else if (match st, s.ratingLimit with
            | .insul p, some r => decide (r < p.volts)
            | _, _ => false) then s.refusedWith 0x0C#8 .rating
          else { s.answered 0x0C#8 (le8 s.rnc.plan.length ++ st.bytes) with
                 rnc := { s.rnc with plan := s.rnc.plan ++ [st] } })

/-- R87 to R90: how PLAN-ADD's parameters are stored. A required parameter left out, a range, flag or pair outside what its
kind allows, or a net range that is empty after clamping, gives no step (BAD_ARG); else each parameter given is clamped (the
voltage rounded down to a multiple of 10 first), each left out takes its default, and Rgood is lowered to Ropen. So stored,
they lie in their ranges. An unknown kind gives no step. -/
def Obligations.StoredStepsLieInTheirRanges : Prop :=
  (∀ b : ContBlock,
    let has (i : Nat) : Bool := b.mask.getLsbD i
    let within (lo hi i v d : Nat) : Nat := max lo (min hi (if has i then v else d))
    let first := max 1 (min 1024 b.first.toNat)
    let last := max 1 (min 1024 b.last.toNat)
    let bad : Prop := has 0 = false ∨ has 1 = false ∨ last < first ∨ (has 2 = true ∧ 3 < b.range.toNat) ∨
      (has 6 = true ∧ 1 < b.shorts.toNat)
    let ropen := within 0 10485600 5 b.ropen.toNat 100000
    (bad → storedStep (.cont b) = none) ∧
    (¬bad → ∃ p : ContParams, storedStep (.cont b) = some (.cont p) ∧ p.first = first ∧ p.last = last ∧
      p.range.code = (if has 2 then b.range.toNat else 3) ∧ p.n = within 1 8 3 b.n.toNat 2 ∧ p.ropen = ropen ∧
      p.rgood = min ropen (within 0 10485600 4 b.rgood.toNat 5000) ∧
      p.shorts = (if has 6 then b.shorts == 1#8 else true) ∧ p.rshort = within 0 10485600 7 b.rshort.toNat 10000000 ∧
      1 ≤ p.first ∧ p.first ≤ p.last ∧ p.last ≤ 1024 ∧ 1 ≤ p.n ∧ p.n ≤ 8 ∧ p.rgood ≤ p.ropen ∧ p.ropen ≤ 10485600 ∧
      p.rshort ≤ 10485600)) ∧
  (∀ b : InsulBlock,
    let has (i : Nat) : Bool := b.mask.getLsbD i
    let within (lo hi i v d : Nat) : Nat := max lo (min hi (if has i then v else d))
    let first := max 1 (min 1024 b.first.toNat)
    let last := max 1 (min 1024 b.last.toNat)
    let bad : Prop := has 0 = false ∨ has 1 = false ∨ has 2 = false ∨ last < first ∨
      (has 11 = true ∧ 1 < b.localise.toNat)
    (bad → storedStep (.insul b) = none) ∧
    (¬bad → ∃ p : InsulParams, storedStep (.insul b) = some (.insul p) ∧ p.first = first ∧ p.last = last ∧
      p.volts = max 50 (min 1500 (b.volts.toNat - b.volts.toNat % 10)) ∧ p.slew = within 50 5000 3 b.slew.toNat 500 ∧
      p.dwell = within 10 60000 4 b.dwell.toNat 1000 ∧ p.rmin = within 1 4000000 5 b.rmin.toNat 100 ∧
      p.n = within 1 8 6 b.n.toNat 3 ∧ p.arcThr = within 1 60 7 b.arcThr.toNat 20 ∧
      p.arcCount = within 1 255 8 b.arcCount.toNat 5 ∧ p.tripLevel = within 1 60 9 b.tripLevel.toNat 50 ∧
      p.tripDelay = within 0 50 10 b.tripDelay.toNat 10 ∧
      p.localise = (if has 11 then b.localise == 1#8 else true) ∧
      1 ≤ p.first ∧ p.first ≤ p.last ∧ p.last ≤ 1024 ∧ 50 ≤ p.volts ∧ p.volts ≤ 1500 ∧ p.volts % 10 = 0)) ∧
  (∀ b : WatchBlock,
    let has (i : Nat) : Bool := b.mask.getLsbD i
    let within (lo hi i v d : Nat) : Nat := max lo (min hi (if has i then v else d))
    let bad : Prop := has 6 = false ∨ b.pairs = [] ∨ 16 < b.pairs.length ∨
      (∃ q ∈ b.pairs, 4096 ≤ q.1.toNat ∨ 4096 ≤ q.2.toNat ∨ q.1 = q.2) ∨ (has 0 = true ∧ 2 < b.range.toNat)
    let ropen := within 0 10485600 2 b.ropen.toNat 100000
    (bad → storedStep (.watch b) = none) ∧
    (¬bad → ∃ p : WatchParams, storedStep (.watch b) = some (.watch p) ∧
      p.range.index = (if has 0 then b.range.toNat else 1) ∧ p.ropen = ropen ∧
      p.rgood = min ropen (within 0 10485600 1 b.rgood.toNat 5000) ∧ p.minBreak = within 1 8 3 b.minBreak.toNat 1 ∧
      p.quiet = within 1 600 4 b.quiet.toNat 30 ∧ p.maxTime = within 1 3600 5 b.maxTime.toNat 300 ∧
      p.pairs = b.pairs.map (fun q => (q.1.toNat, q.2.toNat)) ∧ p.rgood ≤ p.ropen ∧ p.ropen ≤ 10485600)) ∧
  (∀ (kind : Byte) (rest : List Byte), storedStep (.other kind rest) = none)

/-- R92: ACTIONS-WRITE stores the actions and the limit under their restrictions; TRIP is never LOG, DISCHG is ABORT, a
limit of 0 is 1. The model's reading of R206, notes/assumptions/15.md: the kinds are numbered from 0 as R169 lists them, so
that TRIP is the action in place 6 and DISCHG that in place 10; LOG, HOLD and ABORT are 0, 1 and 2. -/
def Obligations.ActionsWriteStoresUnderRestrictions : Prop :=
  ∀ (s : State) (codes : List Byte) (limit : Word16), s.quiet → codes.length = 11 →
    (s.active = true → exec (.actionsWrite codes limit) s = .next (s.refusedWith 0x0E#8 .busy)) ∧
    (s.active = false → (∃ c ∈ codes, 2 < c.toNat) →
      exec (.actionsWrite codes limit) s = .next (s.refusedWith 0x0E#8 .badArg)) ∧
    (s.active = false → (∀ c ∈ codes, c.toNat ≤ 2) →
      ∃ as : Vector Action 11,
        (∀ i : Fin 11, as.get i =
          if i.val = 10 then .abort
          else match (codes.getD i.val 0#8).toNat with
            | 0 => if i.val = 6 then .hold else .log
            | 1 => .hold
            | _ => .abort) ∧
        exec (.actionsWrite codes limit) s = .next
          { s.answered 0x0E#8 (as.toList.flatMap (fun a => le8 a.code) ++ le16 (max 1 limit.toNat)) with
            rnc := { s.rnc with actions := as, limit := max 1 limit.toNat } })

/-! ### Starting, holding and ending runs -/

/-- R94: the checks of START-PLAN in order; a refused start changes nothing. -/
def Obligations.StartPlanChecksInOrder : Prop :=
  ∀ s : State, s.quiet →
    let c1 : Prop := s.active = true
    let c2 : Prop := s.hvc.dischLatch = true
    let c3 : Prop := s.rnc.plan = []
    let c4 : Prop := (∃ st ∈ s.rnc.plan, (∃ p, st = .cont p) ∨ ∃ p, st = .insul p) ∧
      ∀ e ∈ s.nst.nets, e.2.length < 2
    let c5 : Prop := ∃ st ∈ s.rnc.plan, ∃ p r, st = .insul p ∧ s.ratingLimit = some r ∧ r < p.volts
    let c6 : Prop := s.pre.enable = true ∧ 2 ≤ s.pre.slots.length
    (c1 → exec .startPlan s = .next (s.refusedWith 0x0F#8 .busy)) ∧
    (¬c1 → c2 → exec .startPlan s = .next (s.refusedWith 0x0F#8 .notSafe)) ∧
    (¬c1 → ¬c2 → c3 → exec .startPlan s = .next (s.refusedWith 0x0F#8 .noPlan)) ∧
    (¬c1 → ¬c2 → ¬c3 → c4 → exec .startPlan s = .next (s.refusedWith 0x0F#8 .noNets)) ∧
    (¬c1 → ¬c2 → ¬c3 → ¬c4 → c5 → exec .startPlan s = .next (s.refusedWith 0x0F#8 .rating)) ∧
    (¬c1 → ¬c2 → ¬c3 → ¬c4 → ¬c5 → c6 → exec .startPlan s = .next (s.refusedWith 0x0F#8 .printBacklog))

/-- R95, R184: an accepted START-PLAN numbers the run, sets its kind, zeroes its clock, answers, and with printing enabled
claims the next summary slot. Its first units follow in the same step. Of a first step whose first unit is tested the figures
are zero, the hold set is empty and the unit's batch is asked for: WATCH's first pair (R158 to R160), CONT's first pair
(R109 to R113), INSUL's first net against its candidates (R140 to R142). -/
def Obligations.StartPlanNumbersTheRun : Prop :=
  ∀ s : State, s.quiet → s.mxc.batch = none → startRefusal .plan s = none →
    let number := if s.rnc.runNo = 65535 then 1 else s.rnc.runNo + 1
    let firstUnit (t : State) (k : UnitKind) (cursor : Nat) (who : Requester) (a b : List Nat) : Prop :=
      t.rnc = { s.rnc with
        runNo := number, kind := some .plan, state := .running, step := 0, hold := .empty, counts := Vector.replicate 11 0,
        total := 0, clock := 0, verdict := .none, reason := .none, cursor := cursor, unit := some k, waits := false,
        struck := false } ∧
      t.dlg = { s.dlg with reserved := true } ∧
      t.mxc = { s.mxc with held := s.mxc.held ++ [{ a := a, b := b, run := true, who := who }] }
    ∃ t, exec .startPlan s = .next t ∧ t.rnc.runNo = number ∧ t.rnc.kind = some .plan ∧ t.rnc.plan = s.rnc.plan ∧
      t.rnc.actions = s.rnc.actions ∧ t.rnc.limit = s.rnc.limit ∧ t.rnc.clock = 0 ∧ t.rnc.hold.pause = false ∧
      t.mxc.conn = s.mxc.conn ∧ t.msu.cal = s.msu.cal ∧
      t.flk.wire = replyWire (replyFrame 0x0F#8 (le16 number)) ∧
      ((s.pre.state = .idle → s.pre.disPending = false) → t.pre.slots = s.pre.slots ++ (if s.pre.enable = true then
        [{ number := if ∃ x ∈ s.pre.slots, x.number = 0 then 1 else 0, runNo := number, kind := .plan,
           title := s.pre.title, nets := s.nst.nets.length, uncal := s.rnc.plan.any (stepUncal s.msu.cal),
           steps := s.rnc.plan.map PlanStep.word, header := false, ended := none, lastStep := none }] else [])) ∧
      (s.cte = .none → s.ise = none → s.wte = none → s.dlg.entry = none → s.dlg.heldBack = none →
        s.dlg.recs.length < 256 →
        (∀ (p : WatchParams) (q : Nat × Nat), s.rnc.plan[0]? = some (.watch p) → p.pairs[0]? = some q →
          s.usable q.1 = true → s.usable q.2 = true → 1 ≤ p.quiet → p.quiet ≤ 600 → 1 ≤ p.maxTime → p.maxTime ≤ 3600 →
          firstUnit t .low 0 .wte [q.1] [q.2] ∧
          ∃ j : WatchJob, t.wte = some j ∧ j.quiet = p.quiet * 1000 ∧ j.maxDead = p.maxTime * 1000 ∧
            ∀ x ∈ j.pairs, x.state = .unknown ∧ x.count = 0 ∧ x.brk = none) ∧
        (∀ (p : ContParams) (n m1 m2 : Nat) (ns ms : List Nat), s.rnc.plan[0]? = some (.cont p) →
          s.testableIn p.first p.last = n :: ns → s.members n = m1 :: m2 :: ms → m1 < m2 →
          (∀ m ∈ s.members n, s.usable m = true) → firstUnit t .low n .cte [m1] [m2]) ∧
        (∀ (p : InsulParams) (n : Nat) (ns : List Nat), s.rnc.plan[0]? = some (.insul p) →
          s.testableIn p.first p.last = n :: ns → (∃ m ∈ s.members n, s.usable m = true) → s.candidates n ≠ [] →
          s.hvc.tripLatch = false → s.hvc.guardClosed = true → s.taken.hvc.linkExpired = false →
          firstUnit t .insulation n .ise (s.members n) (s.candidates n)))

/-- R95, R81: an accepted START-LEARN numbers the run, empties the net table and answers the threshold in use; the lead
values stay. R82, R53, R54: its first search stands on the lowest usable point, against the usable points above it as one
interval. R49, R56 to R60, R83, R122: a group sample that completes its result answers a search, here with an interval left
or halved: ISOLATED, the next interval is taken; CONDUCT on two or more points, the interval is halved, the lower half first;
CONDUCT on one, it is found: LEARN assigns it to the net, CONT's SHORTS stage records a SHORT, and the next interval is
taken. -/
def Obligations.StartLearnEmptiesTheNets : Prop :=
  (∀ (s : State) (rlearn : Word32), s.quiet → s.mxc.batch = none → startRefusal .learn s = none →
    let number := if s.rnc.runNo = 65535 then 1 else s.rnc.runNo + 1
    let usables := s.presentPoints.filter fun q => s.quar q == .none
    ∃ t, exec (.startLearn rlearn) s = .next t ∧ t.rnc.runNo = number ∧ t.rnc.kind = some .learn ∧
      t.nst = { s.nst with nets := [] } ∧ t.rnc.plan = s.rnc.plan ∧ t.mxc.conn = s.mxc.conn ∧
      t.flk.wire = replyWire (replyFrame 0x10#8 (le16 number ++
        le32 (if rlearn = 0#32 then 100000 else min rlearn.toNat 10485600))) ∧
      (∀ p q qs, usables = p :: q :: qs → usables.Pairwise (· < ·) → s.gsu.state = .idle → s.ise = none → s.wte = none →
        s.dlg.entry = none → s.dlg.heldBack = none → s.dlg.recs.length < 256 →
        t.rnc.state = .running ∧ t.rnc.hold = .empty ∧ t.rnc.total = 0 ∧ t.rnc.cursor = p ∧ t.rnc.unit = some .low ∧
        t.gsu = { state := .connecting, caller := .cte, driven := [p], cands := q :: qs, stack := [],
                  cur := some (0, qs.length + 1), found := 0 } ∧
        t.mxc.held = s.mxc.held ++ [{ a := [p], b := q :: qs, run := true, who := .gsu }])) ∧
  (∀ (s : State) (raw : Word16) (w : Window) (f : Filter) (thr n lo hi : Nat) (iv : Nat × Nat) (ivs : List (Nat × Nat)),
    s.calm → s.unhindered → s.ise = none → s.wte = none →
    s.msu.window = some w → w.owner = .cte → w.sampling = true → s.msu.waiting = [] → s.msu.busWait = false →
    ((∃ j : ContJob, s.cte = .cont j ∧ j.stage = .shorts ∧ f = j.filter ∧ thr = j.p.rshort ∧ n = j.p.n) ∨
      (∃ j : LearnJob, s.cte = .learn j ∧ f = j.filter ∧ thr = j.rlearn ∧ n = 2)) →
    s.gsu.state = .measuring → s.gsu.cur = some (lo, hi) → s.gsu.stack = iv :: ivs →
    let r := resistance s.msu.cal s.msu.contRange raw (s.leadOf w.la) (s.leadOf w.lb)
    let cls : SampleClass := match r with
      | none => .isolated
      | some x => if x ≤ thr then .conduct else .isolated
    let len := if f.cls = some cls then f.len + 1 else 1
    let positive : Prop := n ≤ len ∧ cls = .conduct ∨ len < n ∧ 3 * n ≤ f.count + 1
    let points (a b : Nat) : List Nat := (s.gsu.cands.drop a).take (b - a)
    let asks (t : State) (a b : Nat) : Prop :=
      t.msu.window = none ∧ t.gsu.state = .connecting ∧ t.gsu.cur = some (a, b) ∧
      t.mxc = { s.mxc with held := s.mxc.held ++ [{ a := s.gsu.driven, b := points a b, run := true, who := .gsu }] }
    (n ≤ len → cls = .isolated →
      ∃ t, exec (.sample raw) s = .next t ∧ asks t iv.1 iv.2 ∧ t.gsu.stack = ivs ∧ t.gsu.found = s.gsu.found ∧
        t.nst = s.nst ∧ t.rnc.total = s.rnc.total) ∧
    (positive → 2 ≤ hi - lo →
      ∃ t, exec (.sample raw) s = .next t ∧ asks t lo (lo + (hi - lo) / 2) ∧
        t.gsu.stack = (lo + (hi - lo) / 2, hi) :: iv :: ivs ∧ t.gsu.found = s.gsu.found ∧ t.nst = s.nst ∧
        t.rnc.total = s.rnc.total) ∧
    (positive → hi - lo ≤ 1 →
      let q := s.gsu.cands.getD lo 0
      (∀ j : LearnJob, s.cte = .learn j → j.net = none → s.nst.nets.length < 1024 →
        ∃ t, exec (.sample raw) s = .next t ∧ asks t iv.1 iv.2 ∧ t.gsu.stack = ivs ∧ t.gsu.found = s.gsu.found + 1 ∧
          t.rnc.total = s.rnc.total ∧
          t.nst = { s.nst with nets := s.nst.nets.set [] j.nextId (sortAsc [j.cursor, q]) } ∧
          ∃ j', t.cte = .learn j' ∧ j'.net = some j.nextId ∧ j'.nextId = j.nextId + 1) ∧
      (∀ (j : LearnJob) (id : Nat), s.cte = .learn j → j.net = some id →
        ∃ t, exec (.sample raw) s = .next t ∧ asks t iv.1 iv.2 ∧ t.gsu.stack = ivs ∧ t.gsu.found = s.gsu.found + 1 ∧
          t.rnc.total = s.rnc.total ∧
          t.nst = { s.nst with nets := s.nst.nets.set [] id (insertAsc q (s.members id)) }) ∧
      (∀ j : ContJob, s.cte = .cont j → s.onlyLogged .short →
        ∃ t rec, exec (.sample raw) s = .next t ∧ asks t iv.1 iv.2 ∧ t.gsu.stack = ivs ∧ t.gsu.found = s.gsu.found + 1 ∧
          t.rnc.total = s.rnc.total + 1 ∧ t.nst = s.nst ∧ t.dlg.recs = s.dlg.recs ++ [rec] ∧ rec.kind = .short ∧
          rec.a = j.anchor ∧ rec.b = some q ∧ rec.value = some (r.getD s.msu.contRange.fullScale) ∧
          rec.range = some s.msu.contRange.index ∧ rec.seq = s.rnc.total + 1)))

/-- R95, R77: an accepted START-ZERO numbers the run, sets the reference point's lead and answers; R78: its first unit joins the
lowest other usable point to the reference. R79, R42: the sample that completes a GOOD result stores the point's lead value,
less the reference's, from 0 to 65535, and the walk goes on. R173: while a record of an earlier run's continuity engine stands in
the entry place, the permit is held back. The model's choice, notes/assumptions/16.md: the reply is placed
at once. -/
def Obligations.StartZeroSetsTheReferenceLead : Prop :=
  (∀ (s : State) (r lr : Word16), s.quiet → s.mxc.batch = none → startRefusal .zero s = none → r.toNat < 4096 →
    s.present r.toNat = true → s.quar r.toNat = .none →
    let number := if s.rnc.runNo = 65535 then 1 else s.rnc.runNo + 1
    ∃ t, exec (.startZero r lr) s = .next t ∧ t.rnc.runNo = number ∧ t.rnc.kind = some .zero ∧
      t.nst = { s.nst with leads := s.nst.leads.set 0 r.toNat lr.toNat } ∧ t.rnc.plan = s.rnc.plan ∧
      t.mxc.conn = s.mxc.conn ∧ t.flk.wire = replyWire (replyFrame 0x11#8 (le16 number)) ∧
      (∀ p, s.presentPoints.find? (fun q => q != r.toNat && s.quar q == .none) = some p →
        s.ise = none → s.wte = none → s.dlg.entry = none → s.dlg.heldBack = none → s.dlg.recs.length < 256 →
        t.rnc.state = .running ∧ t.rnc.hold = .empty ∧ t.rnc.total = 0 ∧ t.rnc.cursor = p ∧ t.rnc.unit = some .low ∧
        t.mxc.held = s.mxc.held ++ [{ a := [r.toNat], b := [p], run := true, who := .cte }]) ∧
      (∀ p, s.presentPoints.find? (fun q => q != r.toNat && s.quar q == .none) = some p →
        s.ise = none → s.wte = none → s.dlg.heldBack = some .cte →
        t.rnc.state = .running ∧ t.rnc.hold = .empty ∧ t.rnc.total = 0 ∧ t.rnc.cursor = p ∧ t.rnc.unit = none ∧
        t.mxc = s.mxc ∧ t.dlg = s.dlg ∧ t.todo = [.ask])) ∧
  (∀ (s : State) (raw : Word16) (w : Window) (j : ZeroJob) (x p : Nat), s.calm → s.unhindered → s.ise = none →
    s.wte = none → s.cte = .zero j → j.phase = .measuring → s.msu.window = some w → w.owner = .cte → w.sampling = true →
    s.msu.waiting = [] → s.msu.busWait = false →
    resistance s.msu.cal s.msu.contRange raw (s.leadOf w.la) (s.leadOf w.lb) = some x → x ≤ 104856 →
    (j.filter.cls = some .good → j.filter.len < 3 → j.filter.count + 1 < 12 →
      exec (.sample raw) s = .next (transmit { s with
        cte := .zero { j with filter := { cls := some .good, len := j.filter.len + 1, count := j.filter.count + 1 } } })) ∧
    (j.filter.cls = some .good → j.filter.len = 3 →
      s.presentPoints.find? (fun q => j.cursor + 1 ≤ q && q != j.r && s.quar q == .none) = some p →
      ∃ t, exec (.sample raw) s = .next t ∧
        t.nst = { s.nst with leads := s.nst.leads.set 0 j.cursor (min 65535 (x - j.lr)) } ∧ t.msu.window = none ∧
        t.rnc.cursor = p ∧ t.rnc.total = s.rnc.total ∧
        t.mxc.held = s.mxc.held ++ [{ a := [j.r], b := [p], run := true, who := .cte }]))

/-- R94, R77: START-LEARN and START-ZERO are refused by the general checks first; START-ZERO then by its own on the
reference point. -/
def Obligations.OtherStartsAreRefusedInOrder : Prop :=
  ∀ (s : State) (rlearn : Word32) (r lr : Word16), s.quiet →
    (∀ c, (c = .busy ∧ s.active = true) ∨
        (c = .notSafe ∧ s.active = false ∧ s.hvc.dischLatch = true) ∨
        (c = .printBacklog ∧ s.active = false ∧ s.hvc.dischLatch = false ∧ s.pre.enable = true ∧
          2 ≤ s.pre.slots.length) →
      exec (.startLearn rlearn) s = .next (s.refusedWith 0x10#8 c) ∧
      exec (.startZero r lr) s = .next (s.refusedWith 0x11#8 c)) ∧
    (startRefusal .zero s = none →
      (4096 ≤ r.toNat → exec (.startZero r lr) s = .next (s.refusedWith 0x11#8 .badArg)) ∧
      (r.toNat < 4096 → s.present r.toNat = false →
        exec (.startZero r lr) s = .next (s.refusedWith 0x11#8 .absentPoint)) ∧
      (r.toNat < 4096 → s.present r.toNat = true → s.quar r.toNat ≠ .none →
        exec (.startZero r lr) s = .next (s.refusedWith 0x11#8 .state)))

/-- R99: PAUSE adds PAUSE to the hold set of a RUNNING run that is not closing out, or of a HELD one, and is refused with
STATE otherwise. -/
def Obligations.PauseAddsItsReason : Prop :=
  ∀ s : State, s.quiet →
    let live : Prop := (s.rnc.state = .running ∨ s.rnc.state = .held) ∧ s.rnc.verdict = .none
    (¬live → exec .pause s = .next (s.refusedWith 0x12#8 .state)) ∧
    (live →
      let h : HoldSet := { s.rnc.hold with pause := true }
      ∃ t, exec .pause s = .next t ∧ t.rnc = { s.rnc with hold := h } ∧ t.hvc = s.taken.hvc ∧ t.mxc = s.mxc ∧
        t.msu = s.msu ∧ t.nst = s.nst ∧ t.dlg = s.dlg ∧ t.pre = s.pre ∧ t.gsu = s.gsu ∧ t.cte = s.cte ∧ t.ise = s.ise ∧
        t.wte = s.wte ∧ t.todo = [] ∧
        t.flk.wire = replyWire (replyFrame 0x12#8 (le8 s.rnc.state.code ++ le8 h.code)))

/-- R99, R98, R97: RESUME is refused with NOT_SAFE while GUARD is held and the guard is open; else it removes PAUSE, OPERATOR,
LINK_LOST and GUARD, and a HELD run whose hold set is then empty goes on: RUNNING, and an engine that waits for a permit asks
again, the boundary checks applying afresh (wentOn). The model's choice, notes/assumptions/36.md: the reply carries the state
before the engines go on. -/
def Obligations.ResumeRemovesItsReasons : Prop :=
  ∀ s : State, s.quiet →
    let live : Prop := (s.rnc.state = .running ∨ s.rnc.state = .held) ∧ s.rnc.verdict = .none
    let h : HoldSet := { s.rnc.hold with pause := false, operator := false, guard := false, linkLost := false }
    let goesOn : Prop := s.rnc.state = .held ∧ h = .empty ∧ s.rnc.hold ≠ .empty
    (¬live → exec .resume s = .next (s.refusedWith 0x13#8 .state)) ∧
    (live → s.rnc.hold.guard = true → s.hvc.guardClosed = false →
      exec .resume s = .next (s.refusedWith 0x13#8 .notSafe)) ∧
    (live → ¬(s.rnc.hold.guard = true ∧ s.hvc.guardClosed = false) → (goesOn → s.mxc.batch = none) →
      ∃ t, exec .resume s = .next t ∧
        t.flk.wire = replyWire (replyFrame 0x13#8 (le8 (if goesOn then RunState.running else s.rnc.state).code ++ le8 h.code)) ∧
        (goesOn → s.taken.wentOn t) ∧
        (¬goesOn ∨ s.rnc.waits = false →
          t.rnc = { s.rnc with hold := h, state := if goesOn then .running else s.rnc.state } ∧
          t.hvc = s.taken.hvc ∧ t.mxc = s.mxc ∧ t.msu = s.msu ∧ t.nst = s.nst ∧ t.dlg = s.dlg ∧ t.pre = s.pre ∧
          t.gsu = s.gsu ∧ t.cte = s.cte ∧ t.ise = s.ise ∧ t.wte = s.wte ∧ t.todo = []))

/-- R101, R104: ABORT of a live run with the bus safe: verdict ABORTED, reason HOST_ABORT, hold set empty, search cleared,
engine stopped, the run's held batches gone, ENDING entered with its teardown batch; refused with STATE in IDLE and ENDED,
accepted without effect while closing out or in ENDING. The model's choice, notes/assumptions/16.md: the reply is placed at
once, with the state after the end cause; a waiting energisation request is withdrawn, notes/assumptions/19.md;
the found count of the cleared search is 0, notes/assumptions/46.md. -/
def Obligations.AbortEndsTheRun : Prop :=
  ∀ s : State, s.quiet →
    (s.active = false → exec .abort s = .next (s.refusedWith 0x14#8 .state)) ∧
    (s.active = true → s.live = false →
      exec .abort s = .next (s.answered 0x14#8 (le8 s.rnc.state.code))) ∧
    (s.live = true → s.hvc.state = .off → s.hvc.bus ≤ 30000 → s.mxc.batch = none →
      ∃ t, exec .abort s = .next t ∧ t.rnc.state = .ending ∧ t.rnc.verdict = .aborted ∧ t.rnc.reason = .hostAbort ∧
        t.rnc.hold = .empty ∧ t.rnc.counts = s.rnc.counts ∧ t.rnc.clock = s.rnc.clock ∧ t.gsu = .idle ∧
        t.cte = .none ∧ t.ise = none ∧ t.wte = none ∧ t.todo = [] ∧
        t.mxc.held = s.mxc.held.filter (fun r => !r.run) ++ [{ a := [], b := [], run := false, who := .teardown }] ∧
        t.mxc.conn = s.mxc.conn ∧ t.hvc.state = .off ∧ t.hvc.waitEnable = none ∧
        t.flk.wire = replyWire (replyFrame 0x14#8 [3#8])) ∧
    (s.live = true → s.hvc.sourceOn = true → s.mxc.batch = none → s.msu.busWait = false →
      ∃ t, exec .abort s = .next t ∧ t.rnc.state = .running ∧ t.rnc.verdict = .aborted ∧ t.hvc.state = .discharge ∧
        t.hvc.timer = true ∧ t.hvc.setpoint = 0 ∧ t.hvc.waiters = s.hvc.waiters ++ [.rnc] ∧ t.ise = none ∧
        t.flk.wire = replyWire (replyFrame 0x14#8 [1#8]))

/-- R101, R104: what an end cause does, whatever it is. Its verdict and reason are the run's, unless the bus stands above 30 V
in OFF with the discharge-fault latch set: then the run is ABORTED by DISCHARGE_FAULT. With the bus safe, and in that case,
ENDING is entered and the teardown batch asked for, else the run waits for the discharge. A run that is not live keeps its
verdict. R173: a record in the entry place stays there, and its engine goes on holding back. The model's readings: a waiting
energisation request is withdrawn, notes/assumptions/19.md, and the found count of the cleared search is 0,
notes/assumptions/46.md. -/
def Obligations.EndCauseIsTakenOnce : Prop :=
  ∀ (v : Verdict) (why : EndReason) (s : State),
    let safe : Prop := s.hvc.state = .off ∧ s.hvc.bus ≤ 30000
    let faulted : Prop := s.hvc.state = .off ∧ 30000 < s.hvc.bus ∧ s.hvc.dischLatch = true
    (s.live = false → endCause v why s = s) ∧
    (s.live = true → v ≠ .none →
      let t := endCause v why s
      (faulted → t.rnc.verdict = .aborted ∧ t.rnc.reason = .dischargeFault) ∧
      (¬faulted → t.rnc.verdict = v ∧ t.rnc.reason = why) ∧
      (safe ∨ faulted → t.rnc.state = .ending ∧ t.hvc.state = .off ∧
        t.mxc.held = s.mxc.held.filter (fun r => !r.run) ++ [{ a := [], b := [], run := false, who := .teardown }]) ∧
      (¬safe → ¬faulted → t.rnc.state = .running ∧ t.hvc.state = .discharge ∧ Waiter.rnc ∈ t.hvc.waiters ∧
        t.mxc.held = s.mxc.held.filter (fun r => !r.run)) ∧
      t.rnc.hold = .empty ∧ t.gsu = .idle ∧ t.cte = .none ∧
      t.ise = none ∧ t.wte = none ∧ t.todo = [] ∧ t.hvc.sourceOn = false ∧ t.hvc.waitEnable = none ∧ t.live = false ∧
      t.rnc.counts = s.rnc.counts ∧ t.rnc.total = s.rnc.total ∧ t.rnc.clock = s.rnc.clock ∧ t.mxc.conn = s.mxc.conn ∧
      t.dlg = { s.dlg with reserved := false })

/-- R97, R98, R173: a permit. In RUNNING, not closing out, each boundary check that fails adds its reason: LOG_FULL without a
free slot or with the entry place occupied, and for an insulation unit TRIP_LATCHED, GUARD and LINK_LOST. With the hold set
empty then the permit is granted and a slot reserved, and nothing else changes; else the run is HELD and the engine waits. A
HELD run parks the engine, and a run that is not live answers STOP. The engine's earlier reservation ends first. -/
def Obligations.PermitFollowsTheBoundaryChecks : Prop :=
  ∀ (k : UnitKind) (s : State),
    let h : HoldSet := s.rnc.hold.join (s.checks k)
    (∀ t, permit k s = (.grant, t) →
      s.rnc.state = .running ∧ s.rnc.verdict = .none ∧ s.rnc.hold = .empty ∧ s.dlg.entry = none ∧
      s.dlg.recs.length < 256 ∧
      (k = .insulation → s.hvc.tripLatch = false ∧ s.hvc.guardClosed = true ∧ s.hvc.linkExpired = false)) ∧
    (s.rnc.state = .running → s.rnc.verdict = .none →
      (h = .empty → permit k s =
        (.grant, { s with dlg := { s.dlg with reserved := true }, rnc := { s.rnc with unit := some k } })) ∧
      (h ≠ .empty → ∃ q, permit k s =
        (.park, { s with
          dlg := { s.dlg with reserved := false }
          rnc := { s.rnc with unit := none, hold := h, state := .held, waits := true }
          flk := { s.flk with notices := q } }))) ∧
    (s.rnc.state = .held → s.rnc.verdict = .none → permit k s =
      (.park, { s with dlg := { s.dlg with reserved := false }, rnc := { s.rnc with unit := none, waits := true } })) ∧
    (s.live = false → permit k s =
      (.stop, { s with dlg := { s.dlg with reserved := false }, rnc := { s.rnc with unit := none } }))

/-- R100, R171, R173: a created record is counted once, in its kind and in the total, with its seq the new total; it takes the
reserved slot or a free one, and stands in the entry place when there is neither. At the limit the run ends FAIL by LIMIT, by
an action of ABORT it ends ABORTED by DEFECT_ABORT, also at the limit (and by DISCHARGE_FAULT in R104's case); LOG leaves the
run as it is, and HOLD adds OPERATOR, or TRIP_LATCHED for a TRIP. -/
def Obligations.CreatedRecordIsCountedAndActsOnce : Prop :=
  ∀ (d : Draft) (s : State), s.rnc.state = .running → s.rnc.verdict = .none → s.dlg.entry = none →
    let t := createRecord d s
    let act := s.rnc.actions.get d.kind.idx
    let full : Prop := s.rnc.total + 1 = s.rnc.limit
    let faulted : Prop := s.hvc.state = .off ∧ 30000 < s.hvc.bus ∧ s.hvc.dischLatch = true
    let r : Rec :=
      { run := s.rnc.runNo, seq := s.rnc.total + 1, kind := d.kind, step := s.rnc.step, a := d.a, netA := s.netOf d.a,
        b := d.b, netB := (match d.b with
          | some b => s.netOf b
          | none => 0),
        value := d.value, bound := d.bound, second := d.second, range := d.range, time := s.rnc.clock, host := true,
        print := s.pre.slots.any fun x => x.runNo == s.rnc.runNo, inStream := false, inPrint := false }
    t.rnc.total = s.rnc.total + 1 ∧ t.rnc.counts.get d.kind.idx = s.rnc.counts.get d.kind.idx + 1 ∧
    (∀ i : Fin 11, i ≠ d.kind.idx → t.rnc.counts.get i = s.rnc.counts.get i) ∧
    (s.dlg.reserved = true ∨ s.dlg.recs.length < 256 →
      t.dlg.recs = s.dlg.recs ++ [r] ∧ t.dlg.entry = none ∧ t.dlg.reserved = false) ∧
    (s.dlg.reserved = false → 256 ≤ s.dlg.recs.length → t.dlg.recs = s.dlg.recs ∧ t.dlg.entry = some r) ∧
    (full ∨ act = .abort → t.live = false ∧ t.rnc.hold = .empty ∧
      (faulted → t.rnc.verdict = .aborted ∧ t.rnc.reason = .dischargeFault) ∧
      (¬faulted → act = .abort → t.rnc.verdict = .aborted ∧ t.rnc.reason = .defectAbort) ∧
      (¬faulted → act ≠ .abort → t.rnc.verdict = .fail ∧ t.rnc.reason = .limit)) ∧
    (¬full → act ≠ .abort → t.rnc.state = .running ∧ t.rnc.verdict = .none ∧ t.hvc = s.hvc ∧ t.mxc = s.mxc ∧
      t.rnc.hold = if act = .log then s.rnc.hold
        else if d.kind = .trip then { s.rnc.hold with tripLatched := true } else { s.rnc.hold with operator := true })

/-! ### PROBE -/

/-- R205: PROBE's refusals, and its first batch, asked for with a on A and b on B and the run flag clear. -/
def Obligations.ProbeAsksForItsBatch : Prop :=
  ∀ (s : State) (a b : Word16) (range : Byte), s.quiet →
    exec (.probe a b range) s = .next
      (if s.active then s.refusedWith 0x16#8 .busy
      else if 4096 ≤ a.toNat ∨ 4096 ≤ b.toNat ∨ a = b ∨ 3 < range.toNat then s.refusedWith 0x16#8 .badArg
      else
        { s.taken with
          flk := (transmit s.taken).flk
          probe := some
            { a := a.toNat, b := b.toNat,
              sel := match range.toNat with
                | 0 => .fixed .cr0
                | 1 => .fixed .cr1
                | 2 => .fixed .cr2
                | _ => .auto,
              result := .ok, reading := none }
          mxc := { s.mxc with
            held := s.mxc.held ++ [{ a := [a.toNat], b := [b.toNat], run := false, who := .probeOn }] } })

/-! ### Log, printer, safety and link requests -/

/-- R175: DEFECT-TAKE with nothing to take, and with a record whose print mark is set or clear. R172 to R174, R102: a record
that leaves frees its slot: a record in the entry place takes it, and LOG_FULL leaves the hold set, a HELD run that it alone
held going on. The model's choice, notes/assumptions/14.md: the present byte is 1 with a record, 0 without. -/
def Obligations.DefectTakeGivesTheOldestRecord : Prop :=
  ∀ (s : State), s.quiet → (∀ r ∈ s.dlg.recs, r.host = true ∨ r.print = true) →
    ((∀ r ∈ s.dlg.recs, r.host = true → r.inStream = true) →
      exec .defectTake s = .next (s.answered 0x17#8 (0#8 :: List.replicate 28 0#8 ++ le16 s.dlg.recs.length ++
        le16 (s.dlg.recs.filter (·.host)).length))) ∧
    (∀ (xs ys : List Rec) (r : Rec), s.dlg.recs = xs ++ r :: ys →
      (∀ x ∈ xs, x.host = true → x.inStream = true) → r.host = true → r.inStream = false →
      let recs := xs ++ (if r.print then [{ r with host := false }] else []) ++ ys
      let taken (recs : List Rec) : State :=
        { s.answered 0x17#8 (1#8 :: r.bytes ++ le16 recs.length ++ le16 (recs.filter (·.host)).length) with
          dlg := { s.dlg with recs := recs } }
      (r.print = true ∨ s.dlg.entry = none ∧ s.rnc.hold.logFull = false → exec .defectTake s = .next (taken recs)) ∧
      (∀ e : Rec, r.print = false → s.dlg.entry = some e → s.dlg.recs.length ≤ 256 → s.dlg.reserved = false →
        s.rnc.hold.logFull = false → s.dlg.streaming = false → s.pre.slots = [] →
        exec .defectTake s = .next
          { taken (recs ++ [e]) with dlg := { s.dlg with recs := recs ++ [e], entry := none, heldBack := none } }) ∧
      (r.print = false → s.dlg.entry = none → s.dlg.recs.length ≤ 256 → s.dlg.reserved = false →
        s.rnc.hold.logFull = true → s.live = true → (s.rnc.state = .held → s.mxc.batch = none) →
        ∃ t, exec .defectTake s = .next t ∧ t.flk.wire = (taken recs).flk.wire ∧
          ({ s.taken with dlg := { s.dlg with recs := recs } } : State).releasedTo
            { s.rnc.hold with logFull := false } t))

/-- R176: STREAM-SET stores its flag; switched on, it queues the oldest host-marked record not in stream at once. -/
def Obligations.StreamSetSwitchesTheStream : Prop :=
  ∀ (s : State) (on : Byte), s.quiet →
    (1 < on.toNat → exec (.streamSet on) s = .next (s.refusedWith 0x18#8 .badArg)) ∧
    (on = 0#8 → exec (.streamSet on) s = .next
      { s.answered 0x18#8 [0#8] with dlg := { s.dlg with streaming := false } }) ∧
    (on = 1#8 → (∀ r ∈ s.dlg.recs, r.host = true → r.inStream = true) → exec (.streamSet on) s = .next
      { s.answered 0x18#8 [1#8] with dlg := { s.dlg with streaming := true } }) ∧
    (on = 1#8 → ∀ (r : Rec) (rs : List Rec), s.dlg.recs = r :: rs → r.host = true → r.inStream = false →
      s.flk.notices = [] →
      ∃ t, exec (.streamSet on) s = .next t ∧ t.dlg.streaming = true ∧
        t.flk.notices.head? = some { kind := .defect, payload := r.bytes } ∧
        t.dlg.recs.head? = some { r with inStream := true })

/-- R191: PRINT-SET's refusals; its settings as stored, and the reply with what stands then. An enable from DISABLED enters
IDLE, elsewhere it only takes back a pending disable; a disable waits for the line's end in PRINTING, changes nothing but the
settings in DISABLED, and elsewhere clears the print marks, the slots and the line at once. The model's choices,
notes/assumptions/14.md and 15.md: yes/no fields of the reply are 1 for yes, and the states are numbered in their order. -/
def Obligations.PrintSetStoresItsSettings : Prop :=
  ∀ (s : State) (en baud timeout : Byte) (title : List Byte), s.quiet →
    let bad : Prop := 1 < en.toNat ∨ 2 < baud.toNat ∨ 32 < title.length ∨ ∃ c ∈ title, c.toNat < 32 ∨ 126 < c.toNat
    (bad → exec (.printSet en baud timeout title) s = .next (s.refusedWith 0x19#8 .badArg)) ∧
    (¬bad → ∃ t, exec (.printSet en baud timeout title) s = .next t ∧ t.pre.timeout = min 60 timeout.toNat ∧
      t.pre.baud.code = baud.toNat ∧ t.pre.title = title ∧
      (en = 1#8 → s.pre.state = .disabled → s.pre.slots = [] → t.pre.state = .idle ∧ t.pre.enable = true) ∧
      (en = 1#8 → s.pre.state ≠ .disabled → t.pre.disPending = false ∧ t.pre.enable = s.pre.enable) ∧
      (en = 0#8 → s.pre.state = .disabled →
        t.pre = { s.pre with baud := t.pre.baud, timeout := min 60 timeout.toNat, title := title } ∧ t.dlg = s.dlg) ∧
      (en = 0#8 → s.pre.state = .printing → t.pre.disPending = true ∧ t.pre.state = .printing) ∧
      (en = 0#8 → s.pre.state = .stalled ∨ s.pre.state = .noPaper ∨ s.pre.state = .idle → s.rnc.hold.logFull = false →
        t.pre.state = .disabled ∧ t.pre.slots = [] ∧ t.pre.line = none ∧ t.pre.enable = false ∧
        t.pre.disPending = false ∧ ∀ r ∈ t.dlg.recs, r.print = false) ∧
      ((s.pre.state = .disabled → s.pre.slots = []) → s.rnc.hold.logFull = false →
        t.flk.wire = replyWire (replyFrame 0x19#8
          ([if t.pre.enable then 1#8 else 0#8] ++ [baud] ++ le8 (min 60 timeout.toNat) ++
            [match t.pre.state with
              | .disabled => 0#8
              | .idle => 1#8
              | .printing => 2#8
              | .stalled => 3#8
              | .noPaper => 4#8] ++
            [if t.pre.disPending then 1#8 else 0#8] ++ le8 t.pre.slots.length))))

/-- R192: PRINT-CANCEL changes nothing in DISABLED. Elsewhere it clears every print mark and frees both slots, and answers the
number of marks there were. A line of which a character has been sent gets a closing CR LF, in PRINTING, STALLED and NO_PAPER
alike; else, and on a second cancel whose closing CR LF has no character on the wire, the engine goes to IDLE, or to DISABLED
if a disable was pending. With LOG_FULL in the hold set, a slot freed by the clearing lets
the run go on (R102, R174). The model's choices: a character counts as sent once it has begun, notes/assumptions/24.md; the
closing CR LF goes on with the wait on BUSY, its timer as it stands, notes/assumptions/48.md. -/
def Obligations.PrintCancelClearsThePrinter : Prop :=
  ∀ s : State, s.quiet →
    (s.pre.state = .disabled → exec .printCancel s = .next (s.answered 0x1A#8 [0#8, 0#8, 0#8])) ∧
    (s.pre.state ≠ .disabled → s.rnc.hold.logFull = false →
      let toClose : Prop := ∃ l, s.pre.line = some l ∧ l.kind ≠ .crlf ∧ 0 < l.sent
      let closing : Prop := ∃ l, s.pre.line = some l ∧ l.kind = .crlf ∧ s.pre.onWire ≠ none ∧ 0 < l.sent
      let st (t : State) : Byte := match t.pre.state with
        | .disabled => 0#8
        | .idle => 1#8
        | .printing => 2#8
        | .stalled => 3#8
        | .noPaper => 4#8
      ∃ t, exec .printCancel s = .next t ∧ t.pre.slots = [] ∧ t.pre.inPrint = none ∧ (∀ r ∈ t.dlg.recs, r.print = false) ∧
        (∀ r, t.dlg.entry = some r → r.print = false) ∧ t.pre.onWire = s.pre.onWire ∧ t.pre.title = s.pre.title ∧
        t.flk.wire = replyWire (replyFrame 0x1A#8
          (st t :: le16 ((s.dlg.recs ++ s.dlg.entry.toList).filter fun r => r.print).length)) ∧
        (∀ l, s.pre.line = some l → toClose → s.pre.state ≠ .idle → t.pre.state = s.pre.state ∧
          t.pre.enable = s.pre.enable ∧ t.pre.disPending = s.pre.disPending ∧ t.pre.busyTimer = s.pre.busyTimer ∧
          t.pre.line = some { rest := [13#8, 10#8], sent := 0, kind := .crlf, slot := l.slot, baud := l.baud }) ∧
        (closing → s.pre.state ≠ .idle → t.pre.state = s.pre.state ∧ t.pre.line = s.pre.line) ∧
        (¬toClose → ¬closing → t.pre.line = none ∧ t.pre.busyTimer = false ∧
          (s.pre.disPending = false → t.pre.state = .idle ∧ t.pre.enable = s.pre.enable) ∧
          (s.pre.disPending = true → t.pre.state = .disabled ∧ t.pre.enable = false ∧ t.pre.disPending = false))) ∧
    (s.pre.state ≠ .disabled → s.rnc.hold.logFull = true → s.live = true → (s.rnc.state = .held → s.mxc.batch = none) →
      s.dlg.entry = none → s.dlg.reserved = false → s.dlg.recs.length ≤ 256 → (∃ r ∈ s.dlg.recs, r.host = false) →
      let cleared : List Rec := s.dlg.recs.map fun r => { r with print := false, inPrint := false }
      ∃ t, exec .printCancel s = .next t ∧ t.pre.slots = [] ∧ t.pre.inPrint = none ∧
        ({ s.taken with dlg := { s.dlg with recs := cleared.filter (·.host) } } : State).releasedTo
          { s.rnc.hold with logFull := false } t)

/-- R153, R102: HV-RELEASE is refused with NOT_SAFE while the bus reads above 30 V; else it clears both latches and the
peak hold, and TRIP_LATCHED leaves the hold set when the trip latch was set: a HELD run that it alone held goes on. R154:
SAFETY-READ answers the record and the present conditions, and reloads the record from those conditions. -/
def Obligations.SafetyRequestsReleaseAndRead : Prop :=
  ∀ s : State, s.quiet →
    let released : Hvc := { s.taken.hvc with tripLatch := false, dischLatch := false, peakHold := 0 }
    (30000 < s.hvc.bus → exec .hvRelease s = .next (s.refusedWith 0x1B#8 .notSafe)) ∧
    (s.hvc.bus ≤ 30000 → s.hvc.tripLatch = false ∨ s.rnc.hold.tripLatched = false →
      exec .hvRelease s = .next { s.answered 0x1B#8 [0#8, 0#8, 0#8, 0#8, 0#8] with hvc := released }) ∧
    (s.hvc.bus ≤ 30000 → s.hvc.tripLatch = true → s.rnc.hold.tripLatched = true → s.rnc.state = .running →
      ∃ t, exec .hvRelease s = .next t ∧ t.rnc = { s.rnc with hold := { s.rnc.hold with tripLatched := false } } ∧
        t.hvc = released ∧
        t.mxc = s.mxc ∧ t.msu = s.msu ∧ t.nst = s.nst ∧ t.dlg = s.dlg ∧ t.pre = s.pre) ∧
    (s.hvc.bus ≤ 30000 → s.hvc.tripLatch = true → s.rnc.hold.tripLatched = true → s.rnc.state = .held →
      s.rnc.verdict = .none → s.mxc.batch = none →
      ∃ t, exec .hvRelease s = .next t ∧ t.hvc.tripLatch = false ∧ t.hvc.dischLatch = false ∧ t.hvc.peakHold = 0 ∧
        t.flk.wire = replyWire (replyFrame 0x1B#8 [0#8, 0#8, 0#8, 0#8, 0#8]) ∧
        ({ s.taken with hvc := released } : State).releasedTo { s.rnc.hold with tripLatched := false } t) ∧
    exec .safetyRead s = .next
      { s.answered 0x1C#8 (safetyPayload s) with
        hvc := { s.taken.hvc with
          safety := { guardOpened := !s.hvc.guardClosed, trip := s.hvc.tripLatch, linkLost := false,
                      dischargeFault := s.hvc.dischLatch } } }

/-- R200: NOTICE-SET stores its four bits; a class switched off has its queued instance removed. R202: WATCHDOG-SET stores
the period, at most 60 s; a period of 0 stops the timer, and another starts it, the acceptance of
its frame having ended any silence (notes/assumptions/20.md). One that waited in the request list while the timer ran out
stores its period and leaves the timer stopped, until a frame reloads it. -/
def Obligations.LinkSettingsAreStored : Prop :=
  (∀ (s : State) (m sec : Byte), s.quiet →
    (∃ t, exec (.noticeSet m) s = .next t ∧ t.flk.classRun = m.getLsbD 0 ∧ t.flk.classSafety = m.getLsbD 1 ∧
      t.flk.classPrinter = m.getLsbD 2 ∧ t.flk.classCard = m.getLsbD 3 ∧
      (∀ n, n ∈ t.flk.notices ↔ n ∈ s.flk.notices ∧
        match n.kind with
        | .defect => True
        | .run => m.getLsbD 0 = true
        | .safety => m.getLsbD 1 = true
        | .printer => m.getLsbD 2 = true
        | .card => m.getLsbD 3 = true) ∧
      t.flk.wire = replyWire (replyFrame 0x1D#8 [m &&& 15#8]) ∧
      t.rnc = s.rnc ∧ t.mxc = s.mxc ∧ t.msu = s.msu ∧ t.nst = s.nst ∧ t.dlg = s.dlg ∧ t.pre = s.pre ∧
      t.hvc = s.taken.hvc) ∧
    exec (.watchdogSet sec) s = .next
      (let t := s.answered 0x1E#8 (le8 (min 60 sec.toNat))
      { t with flk := { t.flk with wdPeriod := min 60 sec.toNat, wdRunning := sec != 0#8 } })) ∧
  (∀ (s : State) (w : Wire) (sec : Byte), s.settled → s.flk.requests = [.ok (.watchdogSet sec)] → s.resetting = none →
    s.flk.wire = some w → w.isReply = true → w.stream = false → s.flk.reply = none → s.flk.notices = [] →
    exec .frameSent s = .next
      { s with flk := { s.flk with
        requests := [], busy := true, wdPeriod := min 60 sec.toNat, wdRunning := sec != 0#8 && !s.flk.ranOut,
        wire := replyWire (replyFrame 0x1E#8 (le8 (min 60 sec.toNat))) } })

/-- R196 to R198: the byte that completes an accepted frame does what the request's own command does, and one whose payload
has a wrong length is refused with LENGTH; a type outside the 32 is refused with UNKNOWN. The model's readings,
notes/assumptions/3.md and 4.md: a request's own command is the acceptance of its frame, and type and length are checked at
acceptance. A refused request changes no state
but for the watchdog's reload. -/
def Obligations.AcceptedFramesAreCarriedOutOrRefused : Prop :=
  (∀ (s : State) (t : Byte), s.quiet → exec (.unknown t) s = .next (s.refusedWith t .unknown)) ∧
  (∀ (s : State) (l : Nat) (t b : Byte) (p : List Byte), s.flk.asm = .check l (t :: p) →
    (t.toNat + (p.map BitVec.toNat).sum + l + b.toNat) % 256 = 0 →
    let s0 : State := { s with flk := { s.flk with asm := .hunt } }
    (∀ i, decodeRequest t p = .ok i → exec (.receivedByte b) s = exec i s0) ∧
    (decodeRequest t p = .badLength t → s.quiet → exec (.receivedByte b) s = .next (s0.refusedWith t .length)))

/-! ### Resets and the card scan -/

/-- R23, R50, R66, R85, R107, R128, R156, R168, R180, R193, R203: power-on and the RESET pin take every block to its
defaults, whatever the state, and begin the scan. A character on the printer wire is completed. The pins, the
latest bus monitor value and the model's own fields stay (notes/assumptions/35.md). -/
def Obligations.PinResetsTakeEveryBlockToDefaults : Prop :=
  ∀ (straps : BitVec 2) (s : State),
    exec (.powerOn straps) s = .next
      { State.reset with
        pending := s.pending
        free := s.free
        mxc := { Mxc.reset with scan := some { slot := 0, kind := .powerOn, hadLost := false } }
        hvc := { Hvc.reset with guardClosed := s.hvc.guardClosed, bus := s.hvc.bus, lamp := decide (30000 < s.hvc.bus) }
        pre := { Pre.reset with paper := s.pre.paper, busy := s.pre.busy, onWire := s.pre.onWire }
        flk := { Flk.reset with straps := straps }
        resetting := some { kind := .powerOn, leftRun := s.rnc.state != .idle, preChanged := s.pre.state != .disabled } } ∧
    exec (.resetPin straps) s = .next
      { State.reset with
        pending := s.pending
        free := s.free
        mxc := { Mxc.reset with
                 cards := s.mxc.cards
                 conn := s.mxc.conn
                 scan := some { slot := 0, kind := .pin, hadLost := s.mxc.cards.any fun e => e.2.isLost } }
        hvc := { Hvc.reset with guardClosed := s.hvc.guardClosed, bus := s.hvc.bus, lamp := decide (30000 < s.hvc.bus) }
        pre := { Pre.reset with paper := s.pre.paper, busy := s.pre.busy, onWire := s.pre.onWire }
        flk := { Flk.reset with straps := straps }
        resetting := some { kind := .pin, leftRun := s.rnc.state != .idle, preChanged := s.pre.state != .disabled } }

/-- R203 and each block's reset table: RESET-ALL and RESET-WORK as requests; RESET-WORK keeps quarantine, nets, leads, plan,
actions, run number, calibration, latches, peak hold, safety record, discard count, notice classes, watchdog period and the
printer's settings. The reply waits for the reset batch. The guard, the bus value and the lamp stay as the inputs have
them (notes/assumptions/35.md). -/
def Obligations.RequestedResetsKeepWhatTheyShould : Prop :=
  ∀ s : State, s.quiet →
    (∃ t, exec .resetAll s = .next t ∧ t.rnc = .reset ∧ t.nst = .reset ∧ t.msu = .reset ∧ t.dlg = .reset ∧ t.gsu = .idle ∧
      t.cte = .none ∧ t.ise = none ∧ t.wte = none ∧ t.mxc.quar = [] ∧ t.mxc.conn = s.mxc.conn ∧
      t.mxc.cards = s.mxc.cards ∧ t.mxc.batch = none ∧ t.mxc.held = [] ∧
      t.mxc.scan = some { slot := 0, kind := .all, hadLost := s.mxc.cards.any fun e => e.2.isLost } ∧
      t.hvc = { Hvc.reset with guardClosed := s.hvc.guardClosed, bus := s.hvc.bus, lamp := decide (30000 < s.hvc.bus) } ∧
      t.pre.state = .disabled ∧ t.pre.slots = [] ∧ t.pre.enable = false ∧
      t.flk = { Flk.reset with straps := s.flk.straps, asm := s.flk.asm, busy := true }) ∧
    (∃ t, exec .resetWork s = .next t ∧
      t.rnc = { Rnc.reset with plan := s.rnc.plan, actions := s.rnc.actions, limit := s.rnc.limit, runNo := s.rnc.runNo } ∧
      t.nst = s.nst ∧ t.msu = { Msu.reset with cal := s.msu.cal } ∧ t.dlg = .reset ∧ t.gsu = .idle ∧ t.cte = .none ∧
      t.ise = none ∧ t.wte = none ∧ t.mxc.quar = s.mxc.quar ∧ t.mxc.conn = s.mxc.conn ∧ t.mxc.cards = s.mxc.cards ∧
      t.mxc.batch = none ∧ t.mxc.held = [] ∧
      t.mxc.scan = some { slot := 0, kind := .work, hadLost := s.mxc.cards.any fun e => e.2.isLost } ∧
      t.hvc = { Hvc.reset with
                guardClosed := s.hvc.guardClosed
                bus := s.hvc.bus
                lamp := decide (30000 < s.hvc.bus)
                state := if s.hvc.sourceOn then .discharge else .off
                timer := s.hvc.sourceOn
                tripLatch := s.hvc.tripLatch
                dischLatch := s.hvc.dischLatch
                peakHold := s.hvc.peakHold
                safety := s.hvc.safety } ∧
      t.pre.state = (if s.pre.enable = true ∧ s.pre.disPending = false then .idle else .disabled) ∧ t.pre.slots = [] ∧
      t.pre.baud = s.pre.baud ∧ t.pre.timeout = s.pre.timeout ∧ t.pre.title = s.pre.title ∧
      t.flk = { s.taken.flk with notices := [], lostSince := [] })

/-- R2, R3, R24: an answer to a scan probe makes its slot PRESENT when its slot, type, rating and check are right, which
clears CARD_LOST on its points, and ABSENT otherwise, which records them OPEN; so does no answer. After slot 63 the scan has
ended and the reset batch is asked for before any other. R25: a scan begun with a LOST slot then raises N-CARD with the lost
sets, and any other raises none; the notice waits for the end of the reset (R203; of one by the RESET
pin by the model's reading, notes/assumptions/22.md). A scan stands within a reset (scanLaw). -/
def Obligations.ScanRecordsEachSlot : Prop :=
  ∀ (s : State) (sc : Scan) (d : Answer) (ok : Bool), s.calm → s.scanLaw → s.mxc.scan = some sc →
    SMap.wf .none s.mxc.quar →
    let goneOn (t : State) : Prop :=
      (sc.slot < 63 → t.mxc.scan = some { sc with slot := sc.slot + 1 } ∧ t.mxc.held = s.mxc.held ∧
        t.flk.lostSince = s.flk.lostSince) ∧
      (sc.slot = 63 → t.mxc.scan = none ∧
        t.mxc.held = { a := [], b := [], run := false, who := .reset } :: s.mxc.held ∧
        (sc.hadLost = true → s.flk.classCard = true →
          { kind := .card, payload := slotSet t.lostSlots ++ slotSet s.flk.lostSince : Notice } ∈ t.flk.notices) ∧
        (sc.hadLost = false → t.flk.notices = s.flk.notices)) ∧
      t.rnc = s.rnc ∧ t.hvc = s.hvc ∧ t.nst = s.nst
    let absentFrom (t : State) : Prop :=
      t.card sc.slot = .absent ∧ (∀ k, k ≠ sc.slot → t.card k = s.card k) ∧
      (∀ p, t.conn p = if p / 64 = sc.slot then .opn else s.conn p) ∧ t.mxc.quar = s.mxc.quar ∧ goneOn t
    (∃ t, exec .scanProbeTimeout s = .next t ∧ absentFrom t) ∧
    (∀ c, d.ctype = some c → d.slot = sc.slot → ok = true →
      d.rating = (match c with
        | .low => 100
        | .high => 1500) →
      ∃ t, exec (.scanDescriptor d ok) s = .next t ∧
        t.card sc.slot = .present { ctype := c, rating := d.rating, operate := d.operate, release := d.release } ∧
        (∀ k, k ≠ sc.slot → t.card k = s.card k) ∧ t.mxc.conn = s.mxc.conn ∧
        (∀ p, t.quar p = if p / 64 = sc.slot ∧ s.quar p = .cardLost then .none else s.quar p) ∧ goneOn t) ∧
    (d.ctype = none ∨ d.slot ≠ sc.slot ∨ ok = false ∨
        (d.ctype = some .low ∧ d.rating ≠ 100) ∨ (d.ctype = some .high ∧ d.rating ≠ 1500) →
      ∃ t, exec (.scanDescriptor d ok) s = .next t ∧ absentFrom t)

/-! ### Relay batches -/

/-- R9 to R14: with no batch in flight, no scan and the bus safe to switch, the first held request is taken: points absent or
quarantined are excluded, a point on both sides goes to A, an open source gate is closed first, and the open phase commands
every relay recorded closed that the adjusted target requires open; no connection has changed yet. A batch that opens nothing
goes straight to the close phase (R15). The reset batch commands both relays of every point of every PRESENT card open
(R24). The model's choice, notes/assumptions/40.md: a point absent and quarantined is excluded as ABSENT. -/
def Obligations.BatchRequestBeginsTheOpenPhase : Prop :=
  ∀ (s : State) (r : BatchReq) (rest : List BatchReq), s.calm → s.mxc.held = r :: rest → s.mxc.batch = none →
    s.mxc.scan = none → s.hvc.dischLatch = false → s.hvc.sourceOn = false → s.hvc.bus ≤ 30000 → SMap.wf .opn s.mxc.conn →
    (s.msu.window = none ∨
      ∃ w j, s.msu.window = some w ∧ w.owner = .wte ∧ s.wte = some j ∧ j.phase = .connecting) →
    let goal (p : Nat) : Conn := if s.usable p = true then (if p ∈ r.a then .a else if p ∈ r.b then .b else .opn) else .opn
    let taken (t : State) (b : Batch) : Prop :=
      t.mxc.batch = some b ∧ t.mxc.held = rest ∧ b.req = r ∧ (∀ p, b.adj.get .opn p = goal p) ∧
      (∀ x : Excl, x ∈ b.excl ↔
        ((x.side = .a ∧ x.point ∈ r.a ∨ x.side = .b ∧ x.point ∈ r.b) ∧
          (s.present x.point = false ∧ x.reason = .absent ∨
            s.present x.point = true ∧ s.quar x.point ≠ .none ∧ x.reason = .quarantined)) ∨
        (s.usable x.point = true ∧ x.point ∈ r.a ∧ x.point ∈ r.b ∧ x.side = .b ∧ x.reason = .bothSides)) ∧
      b.faults = [] ∧ b.aborted = false ∧ b.stuck = false ∧ t.msu = { s.msu with window := none } ∧
      t.mxc.conn = s.mxc.conn ∧ t.mxc.quar = s.mxc.quar ∧ t.mxc.cards = s.mxc.cards ∧ t.hvc = s.hvc ∧ t.rnc = s.rnc ∧
      t.wte = s.wte
    (r.who ≠ .reset → (∃ p, s.conn p ≠ .opn ∧ s.conn p ≠ goal p) →
      ∃ t b, exec .batchRequest s = .next t ∧ taken t b ∧ b.phase = .opening ∧
        (∀ p side, { point := p, side := side : RelayCmd } ∈ b.cmds ↔ s.conn p = connOf side ∧ goal p ≠ s.conn p)) ∧
    (r.who ≠ .reset → (∀ p, s.conn p = .opn ∨ s.conn p = goal p) → (∃ p, s.conn p ≠ goal p) →
      ∃ t b, exec .batchRequest s = .next t ∧ taken t b ∧ b.phase = .closing ∧
        (∀ p side, { point := p, side := side : RelayCmd } ∈ b.cmds ↔ goal p = connOf side ∧ s.conn p ≠ connOf side)) ∧
    (r = { a := [], b := [], run := false, who := .reset } → SMap.wf .absent s.mxc.cards → (∃ k d, s.card k = .present d) →
      ∃ t b, exec .batchRequest s = .next t ∧ taken t b ∧ b.phase = .opening ∧
        (∀ p side, { point := p, side := side : RelayCmd } ∈ b.cmds ↔ (s.card (p / 64)).isPresent = true))

/-- R11, R12, R20, R105: with the discharge-fault latch set the teardown settles FROZEN, no relay moves and the run is
ENDED; one that would change nothing settles at once; with the bus above 30 V a changing batch waits for the discharge it
asks for. -/
def Obligations.BatchRequestMayFreezeSettleOrWait : Prop :=
  ∀ (s : State) (r : BatchReq), s.calm → s.mxc.held = [r] → s.mxc.batch = none → s.mxc.scan = none →
    r = { a := [], b := [], run := false, who := .teardown } →
    (s.hvc.dischLatch = true ∨ (∀ p, s.conn p = .opn) → s.rnc.state = .ending → s.pre.slots = [] →
      ∃ t, exec .batchRequest s = .next t ∧ t.mxc.batch = none ∧ t.mxc.held = [] ∧ t.mxc.conn = s.mxc.conn ∧
        t.hvc = s.hvc ∧ t.msu = s.msu ∧ t.rnc = { s.rnc with state := .ended }) ∧
    (s.hvc.dischLatch = false → (∃ p, s.conn p ≠ .opn) → s.msu.window = none → s.hvc.state = .off → 30000 < s.hvc.bus →
      ∃ t b, exec .batchRequest s = .next t ∧ t.mxc.batch = some b ∧ b.phase = .busWait ∧ t.hvc.state = .discharge ∧
        t.hvc.timer = true ∧ t.hvc.waiters = s.hvc.waiters ++ [.mxc] ∧ t.mxc.conn = s.mxc.conn ∧ t.rnc = s.rnc)

/-- R14, R15, R19: an acknowledge of a command of the batch's phase records its point's connection; the phase's last one starts
the wait, the largest release or operate time among the PRESENT cards that acknowledged in the phase (code 0 is 16 ms). Any
other acknowledge can only be that of an open command of R17 or R18, which is then outstanding no more. The model's reading,
notes/assumptions/11.md: each command is acknowledged by itself, and the batch does not wait for the openings of R17 and
R18. -/
def Obligations.AcknowledgeRecordsTheConnection : Prop :=
  ∀ (s : State) (p : Nat) (side : Side), s.calm →
    (∀ (b : Batch) (d : Desc), s.mxc.batch = some b →
      (b.phase = .opening ∨ b.phase = .closing) → { point := p, side := side : RelayCmd } ∈ b.cmds →
      s.card (p / 64) = .present d →
      let time (k : Nat) : Nat := match s.card k with
        | .present d =>
          let code := if b.phase = .opening then d.release else d.operate
          if code = 0#4 then 16 else code.toNat
        | _ => 0
      ∃ t b', exec (.cardAcknowledge p side) s = .next t ∧ t.mxc.batch = some b' ∧
        (∀ q, t.conn q =
          if q = p then
            if b.phase = .opening then (if s.conn p = connOf side then .opn else s.conn p)
            else if s.quar p = .none then connOf side else s.conn p
          else s.conn q) ∧
        t.mxc.quar = s.mxc.quar ∧ t.mxc.cards = s.mxc.cards ∧ t.mxc.opens = s.mxc.opens ∧ t.hvc = s.hvc ∧
        t.msu = s.msu ∧ t.rnc = s.rnc ∧
        b'.cmds = b.cmds.erase { point := p, side := side } ∧ p / 64 ∈ b'.acked ∧
        (b'.cmds ≠ [] → b'.phase = b.phase) ∧
        (b'.cmds = [] →
          b'.phase = (if b.phase = .opening then .openWait else .closeWait) ∧
          (∀ k, k = p / 64 ∨ k ∈ b.phaseAcked → time k ≤ b'.waitMs) ∧
          (∃ k, (k = p / 64 ∨ k ∈ b.phaseAcked) ∧ b'.waitMs = time k))) ∧
    ((∀ b, s.mxc.batch = some b → (b.phase = .opening ∨ b.phase = .closing) →
        { point := p, side := side : RelayCmd } ∉ b.cmds) →
      exec (.cardAcknowledge p side) s = .next (transmit
        { s with mxc := { s.mxc with opens := s.mxc.opens.erase { point := p, side := side } } }))

/-- R19, R25: a card that fails to acknowledge, or to report readback, becomes LOST: its points are quarantined CARD_LOST and
recorded OPEN, the fault is listed, and the batch goes on without the card: to the wait when it was the last outstanding and
another had acknowledged, and to its end when it was the last to be read (R20; here a teardown's, R105). A card that leaves an
opening of R17 or R18 unacknowledged after its batch has settled is lost too (the model's reading, notes/assumptions/11.md);
a card of which nothing is awaited is not lost. R200: its slot joins the lost
since set, and N-CARD with both sets is queued, or sent at once when the transmitter has nothing else; the set then starts
afresh. The model's reading, notes/assumptions/34.md: the set grows with N-CARD off too. -/
def Obligations.SilentCardIsLost : Prop :=
  ∀ (s : State) (k : Nat) (d : Desc), s.calm → s.card k = .present d →
    let gone (t : State) : Prop :=
      t.card k = .lost d ∧ (∀ j, j ≠ k → t.card j = s.card j) ∧
      (∀ p, t.quar p = if p / 64 = k then .cardLost else s.quar p) ∧
      (∀ p, t.conn p = if p / 64 = k then .opn else s.conn p) ∧
      (∀ c, c ∈ t.mxc.opens ↔ c ∈ s.mxc.opens ∧ c.point / 64 ≠ k) ∧
      t.hvc = s.hvc ∧ t.msu = s.msu
    let lost (t : State) : Prop :=
      gone t ∧ t.rnc = s.rnc ∧
      (s.flk.wire ≠ none →
        (∀ j, j ∈ t.flk.lostSince ↔ j = k ∨ j ∈ s.flk.lostSince) ∧ t.flk.wire = s.flk.wire ∧
        (s.flk.classCard = true →
          { kind := .card, payload := slotSet t.lostSlots ++ slotSet t.flk.lostSince : Notice } ∈ t.flk.notices) ∧
        (s.flk.classCard = false → t.flk.notices = s.flk.notices)) ∧
      (s.flk.wire = none → s.flk.reply = none → s.resetting = none → s.flk.notices = [] → s.flk.classCard = true →
        t.flk.lostSince = [] ∧ t.flk.notices = [] ∧ ∃ since : List Nat,
          (∀ j, j ∈ since ↔ j = k ∨ j ∈ s.flk.lostSince) ∧
          t.flk.wire = some { frame := { type := 0x84#8, payload := slotSet t.lostSlots ++ slotSet since },
                              isReply := false, stream := false })
    (∀ b : Batch, s.mxc.batch = some b →
      let lostIn (t : State) (b' : Batch) : Prop :=
        lost t ∧ t.mxc.batch = some b' ∧ b'.faults = b.faults ++ [.lost k] ∧
        (∀ p side, p / 64 = k → b.adj.get .opn p = connOf side → ∃ x ∈ b'.excl, x.point = p ∧ x.side = side)
      ((b.phase = .opening ∨ b.phase = .closing) → (∃ c ∈ b.cmds, c.point / 64 = k) → (∃ c ∈ b.cmds, c.point / 64 ≠ k) →
        ∃ t b', exec (.cardAckTimeout k) s = .next t ∧ lostIn t b' ∧ b'.phase = b.phase ∧
          ∀ c, c ∈ b'.cmds ↔ c ∈ b.cmds ∧ c.point / 64 ≠ k) ∧
      ((b.phase = .opening ∨ b.phase = .closing) → (∃ c ∈ b.cmds, c.point / 64 = k) → (∀ c ∈ b.cmds, c.point / 64 = k) →
        (∃ m ∈ b.phaseAcked, m ≠ k ∧ (s.card m).isPresent = true) →
        ∃ t b', exec (.cardAckTimeout k) s = .next t ∧ lostIn t b' ∧ b'.cmds = [] ∧
          b'.phase = if b.phase = .opening then .openWait else .closeWait) ∧
      (b.phase = .readback → k ∈ b.reads → (∃ j ∈ b.reads, j ≠ k) →
        ∃ t b', exec (.readbackTimeout k) s = .next t ∧ lostIn t b' ∧ b'.phase = .readback ∧
          ∀ j, j ∈ b'.reads ↔ j ∈ b.reads ∧ j ≠ k) ∧
      (b.phase = .readback → k ∈ b.reads → (∀ j ∈ b.reads, j = k) → s.mxc.held = [] → b.req.who = .teardown →
        s.rnc.state = .ending → s.pre.slots = [] →
        ∃ t, exec (.readbackTimeout k) s = .next t ∧ gone t ∧ t.mxc.batch = none ∧
          t.rnc = { s.rnc with state := .ended })) ∧
    (s.mxc.batch = none →
      ((∃ c ∈ s.mxc.opens, c.point / 64 = k) →
        ∃ t, exec (.cardAckTimeout k) s = .next t ∧ lost t ∧ t.mxc.batch = none) ∧
      ((∀ c ∈ s.mxc.opens, c.point / 64 ≠ k) → exec (.cardAckTimeout k) s = .next (transmit s)))

/-- R14 to R16, R21: the release wait leads to the close phase, which commands every relay that the target wants closed on a
usable point that is not; an aborted batch skips it; the operate wait leads to readback of the cards that acknowledged. -/
def Obligations.PhaseWaitsLeadOn : Prop :=
  ∀ (s : State) (b : Batch), s.calm → s.mxc.batch = some b → b.req.who ≠ .reset →
    (b.phase = .openWait → b.aborted = false → SMap.wf .opn b.adj →
      (∃ p, s.usable p = true ∧ b.adj.get .opn p ≠ .opn ∧ s.conn p ≠ b.adj.get .opn p) →
      ∃ t b', exec .openPhaseWaitEnd s = .next t ∧ t.mxc.batch = some b' ∧ b'.phase = .closing ∧
        (∀ p side, { point := p, side := side : RelayCmd } ∈ b'.cmds ↔
          b.adj.get .opn p = connOf side ∧ s.usable p = true ∧ s.conn p ≠ connOf side) ∧
        t.mxc.conn = s.mxc.conn ∧ t.rnc = s.rnc ∧ t.hvc = s.hvc) ∧
    ((b.phase = .openWait ∧ b.aborted = true) ∨ b.phase = .closeWait →
      (∃ k ∈ b.acked, (s.card k).isPresent = true) →
      ∃ t b', exec (if b.phase = .openWait then .openPhaseWaitEnd else .closePhaseWaitEnd) s = .next t ∧
        t.mxc.batch = some b' ∧ b'.phase = .readback ∧
        (∀ k, k ∈ b'.reads ↔ k ∈ b.acked ∧ (s.card k).isPresent = true) ∧
        t.mxc.conn = s.mxc.conn ∧ t.rnc = s.rnc ∧ t.hvc = s.hvc)

/-- R16 to R18: a relay recorded closed that reads open quarantines its point READBACK and opens it; a relay recorded open
that reads closed quarantines and opens the whole card and marks the batch STUCK; the next card is waited for. The
relays of what failed are commanded open, and their acknowledges awaited (notes/assumptions/11.md). The model's
choice, notes/assumptions/12.md: a card with both failures lists both. R20: after the last card the batch settles. OK, a
teardown ends the run (R105), a reset batch the reset, with the reply it owes (R203, R107), and a pair unit of a CONT step
opens its window (R113). A stuck relay in a run's batch is recorded and ends the run by STUCK_RELAY (R100, R126). -/
def Obligations.ReadbackQuarantinesWhatFailed : Prop :=
  ∀ (s : State) (b : Batch) (k : Nat) (a bb : BitVec 64), s.calm → s.mxc.batch = some b → b.phase = .readback →
    k ∈ b.reads →
    let failed (p : Nat) : Prop := p / 64 = k ∧
      ((s.conn p = .a ∧ a.getLsbD (p % 64) = false) ∨ (s.conn p = .b ∧ bb.getLsbD (p % 64) = false))
    let stuck : Prop := ∃ p, p / 64 = k ∧
      ((a.getLsbD (p % 64) = true ∧ s.conn p ≠ .a) ∨ (bb.getLsbD (p % 64) = true ∧ s.conn p ≠ .b))
    let sound : Prop := (∀ p, ¬failed p) ∧ ¬stuck ∧ b.stuck = false ∧ b.aborted = false ∧ b.faults = [] ∧ b.excl = []
    ((∃ j ∈ b.reads, j ≠ k) → ∃ t b', exec (.readbackReport k a bb) s = .next t ∧ t.mxc.batch = some b' ∧ b'.phase = .readback ∧
      (∀ j, j ∈ b'.reads ↔ j ∈ b.reads ∧ j ≠ k) ∧ (b'.stuck = true ↔ b.stuck = true ∨ stuck) ∧
      t.mxc.cards = s.mxc.cards ∧ t.rnc = s.rnc ∧ t.hvc = s.hvc ∧
      (¬stuck → ∀ p, (failed p → t.quar p = .readback ∧ t.conn p = .opn) ∧
        (¬failed p → t.quar p = s.quar p ∧ t.conn p = s.conn p)) ∧
      (stuck → ∀ p, (p / 64 = k → t.quar p = .readback ∧ t.conn p = .opn) ∧
        (p / 64 ≠ k → t.quar p = s.quar p ∧ t.conn p = s.conn p)) ∧
      (∀ c, c ∈ t.mxc.opens ↔ c ∈ s.mxc.opens ∨ (stuck ∧ c.point / 64 = k) ∨ (¬stuck ∧ failed c.point)) ∧
      (∀ p, failed p → MFault.noClose p ∈ b'.faults) ∧ (stuck → MFault.stuck k ∈ b'.faults)) ∧
    ((∀ j ∈ b.reads, j = k) → s.mxc.held = [] →
      (sound → b.req.who = .teardown → s.rnc.state = .ending → s.pre.slots = [] →
        ∃ t, exec (.readbackReport k a bb) s = .next t ∧ t.rnc = { s.rnc with state := .ended } ∧
          t.mxc = { s.mxc with batch := none } ∧ t.hvc = s.hvc ∧ t.msu = s.msu ∧ t.dlg = s.dlg ∧ t.nst = s.nst) ∧
      (∀ r : Resetting, sound → b.req.who = .reset → s.resetting = some r → s.flk.wire = none → s.flk.reply = none →
        ∃ t, exec (.readbackReport k a bb) s = .next t ∧ t.resetting = none ∧ t.mxc = { s.mxc with batch := none } ∧
          t.rnc = s.rnc ∧ t.hvc = s.hvc ∧ t.nst = s.nst ∧
          (r.kind = .work → t.flk.wire = replyWire (replyFrame 0x1F#8 [])) ∧
          (r.kind = .all → t.flk.wire = replyWire (replyFrame 0x20#8 [])) ∧
          (r.kind = .work ∨ r.kind = .all → r.leftRun = true → s.flk.classRun = true →
            ∃ n ∈ t.flk.notices, n.kind = .run)) ∧
      (∀ j : ContJob, sound → b.req.who = .cte → s.ise = none → s.wte = none → s.cte = .cont j → j.stage = .pairs →
        s.dlg.heldBack = none →
        ∃ t, exec (.readbackReport k a bb) s = .next t ∧ t.cte = .cont { j with phase := .measuring, filter := .fresh } ∧
          t.msu = { s.msu with waiting := s.msu.waiting ++
            [{ owner := .cte, range := j.p.range.first, la := some j.anchor, lb := some j.cursor }] } ∧
          t.mxc = { s.mxc with batch := none } ∧ t.rnc = s.rnc ∧ t.hvc = s.hvc ∧ t.dlg = s.dlg) ∧
      (∀ j : ContJob, stuck → (∀ p, ¬failed p) → b.aborted = false → b.faults = [] → b.req.who = .cte → s.ise = none →
        s.wte = none → s.cte = .cont j → s.rnc.state = .running → s.rnc.verdict = .none → s.rnc.total < s.rnc.limit →
        s.dlg.entry = none → s.hvc.state = .off → s.hvc.bus ≤ 30000 →
        ∃ t rec, exec (.readbackReport k a bb) s = .next t ∧ t.rnc.state = .ending ∧ t.rnc.verdict = .aborted ∧
          t.rnc.reason = .stuckRelay ∧ t.rnc.total = s.rnc.total + 1 ∧ t.cte = .none ∧ t.mxc.batch = none ∧
          t.mxc.held = [{ a := [], b := [], run := false, who := .teardown }] ∧
          (∀ p, p / 64 = k → t.quar p = .readback ∧ t.conn p = .opn) ∧
          rec.kind = .matrix ∧ rec.a = k * 64 ∧ rec.b = none ∧ rec.value = some (MFault.stuck k).code ∧
          rec.seq = s.rnc.total + 1 ∧
          (s.dlg.reserved = true ∨ s.dlg.recs.length < 256 → t.dlg.recs = s.dlg.recs ++ [rec]) ∧
          (s.dlg.reserved = false → 256 ≤ s.dlg.recs.length → t.dlg.recs = s.dlg.recs ∧ t.dlg.entry = some rec)))

/-! ### Measurement -/

/-- R29, R13: the first waiting window request is taken when no window is open, the matrix is still and the bus is safe: the
continuity range is set, the gate opens and settling begins; the settle time's end begins sampling. -/
def Obligations.WindowOpensAndSettles : Prop :=
  ∀ (s : State), s.calm →
    (∀ (w : WinReq) (ws : List WinReq), s.msu.waiting = w :: ws → s.msu.window = none → s.msu.busWait = false →
      s.moving = false → s.hvc.sourceOn = false → s.hvc.bus ≤ 30000 →
      exec .windowOpen s = .next (transmit
        { s with msu := { s.msu with
          contRange := w.range
          waiting := ws
          window := some { owner := w.owner, la := w.la, lb := w.lb, sampling := false } } })) ∧
    (∀ w : Window, s.msu.window = some w →
      exec .settleTimeEnd s = .next (transmit { s with msu := { s.msu with window := some { w with sampling := true } } }))

/-- R30, R39 to R42: R of a sample, from the raw code by the offset, gain, scaling and lead stages, or OVER for 65535. R205:
PROBE under a fixed range takes the first, and asks for its opening batch. R46 to R48, R114: a pair unit of a CONT step: OVER
under AUTO goes a range up and starts the filter anew; else the sample is classed and counted, and N agreeing, or 3N samples
without, give the verdict: a record unless it is GOOD, and the next member's batch. R161 to R163, R159: a sample of the watch
engine moves its pair's record: a break sample counts to the BREAK, a good one heals it, one between changes nothing; BREAK
and its end reload the quiet deadline, and the end of a BREAK is an INTMIT record; the next pair's batch follows, unless that
record ends the run, whose cursor stays. -/
def Obligations.SampleGivesProbeItsResistance : Prop :=
  ∀ (s : State) (raw : Word16) (w : Window) (a b : Nat) (range : CRange), s.calm →
    s.msu.window = some w → w.sampling = true → w.la = some a → w.lb = some b → s.msu.contRange = range →
    s.msu.waiting = [] → s.msu.busWait = false →
    let e := s.msu.cal.cont range
    let k1 := max 0 (min 65535 ((raw.toNat : Int) + e.offset))
    let k2 := max 0 (min 65535 ((k1 * (65536 + e.gain) + 32768) / 65536))
    let f : Nat := match range with
      | .cr0 => 16
      | .cr1 => 160
      | .cr2 => 1600
    let r : Nat := (k2.toNat * f + 5) / 10 - (s.lead a + s.lead b)
    let res : Option Nat := if raw = 65535#16 then none else some r
    (∀ p : Probe, w.owner = .probe → s.probe = some p → p.sel = .fixed range →
      exec (.sample raw) s = .next (transmit
        { s with
          probe := some { p with reading := some (res, range, raw) }
          msu := { s.msu with window := none }
          mxc := { s.mxc with held := s.mxc.held ++ [{ a := [], b := [], run := false, who := .probeOff }] } })) ∧
    (∀ j : ContJob, w.owner = .cte → s.ise = none → s.wte = none → s.cte = .cont j → j.stage = .pairs →
      j.phase = .measuring →
      let cls : SampleClass := match res with
        | none => .opn
        | some x => if x ≤ j.p.rgood then .good else if j.p.ropen < x then .opn else .high
      let len : Nat := if j.filter.cls = some cls then j.filter.len + 1 else 1
      let f' : Filter := { cls := some cls, len := len, count := j.filter.count + 1 }
      (∀ up, j.p.range = .auto → res = none → (range = .cr0 ∧ up = .cr1 ∨ range = .cr1 ∧ up = .cr2) →
        exec (.sample raw) s = .next (transmit
          { s with
            cte := .cont { j with filter := .fresh }
            msu := { s.msu with contRange := up, window := some { w with sampling := false } } })) ∧
      (j.p.range ≠ .auto ∨ res ≠ none ∨ range = .cr2 →
        (len < j.p.n → j.filter.count + 1 < 3 * j.p.n →
          exec (.sample raw) s = .next (transmit { s with cte := .cont { j with filter := f' } })) ∧
        (∀ m : Nat, j.p.n ≤ len ∨ 3 * j.p.n ≤ j.filter.count + 1 → s.unhindered →
          (s.members j.net).find? (fun q => j.cursor + 1 ≤ q && q != j.anchor && !j.reported.contains q) = some m →
          s.usable m = true →
          let kind : DefectKind := if j.p.n ≤ len then (if cls = .high then .highR else .opn) else .unstbl
          let asked (t : State) : Prop :=
            t.msu.window = none ∧
            t.cte = .cont { j with filter := f', cursor := m, recOnly := false, phase := .connecting } ∧
            t.mxc = { s.mxc with held := s.mxc.held ++ [{ a := [j.anchor], b := [m], run := true, who := .cte }] }
          (j.p.n ≤ len → cls = .good →
            ∃ t, exec (.sample raw) s = .next t ∧ asked t ∧ t.dlg.recs = s.dlg.recs ∧ t.rnc.total = s.rnc.total) ∧
          (len < j.p.n ∨ cls ≠ .good → s.onlyLogged kind →
            ∃ t rec, exec (.sample raw) s = .next t ∧ asked t ∧ t.dlg.recs = s.dlg.recs ++ [rec] ∧
              t.rnc.total = s.rnc.total + 1 ∧ rec.kind = kind ∧ rec.a = j.anchor ∧ rec.b = some j.cursor ∧
              rec.value = some (res.getD range.fullScale) ∧ rec.bound = (if res = none then .atLeast else .none) ∧
              rec.range = some range.index)))) ∧
    (∀ (j : WatchJob) (old : PairRec) (i : Nat) (nx : PairRec), w.owner = .wte → s.ise = none → s.wte = some j →
      j.stage = .sampling → j.phase = .measuring → j.pairs[j.cursor]? = some old → old.state ≠ .untestable →
      s.unhindered →
      let out : Bool := match res with
        | none => true
        | some x => decide (j.p.ropen < x)
      let good : Bool := match res with
        | none => false
        | some x => decide (x ≤ j.p.rgood)
      let isBreak : Prop := out = true ∧ old.state ≠ .brk ∧ j.p.minBreak ≤ old.count + 1
      let heals : Prop := out = false ∧ good = true ∧ old.state = .brk
      let raised : Option (Nat × Peak) := match old.brk, res with
        | none, none => some (s.rnc.clock, .over)
        | none, some x => some (s.rnc.clock, .value x)
        | some (t0, .over), _ => some (t0, .over)
        | some (t0, .value _), none => some (t0, .over)
        | some (t0, .value y), some x => some (t0, .value (max y x))
      let new : PairRec :=
        if out = true then
          if old.state = .brk then { old with brk := raised }
          else { old with count := old.count + 1, brk := raised,
                          state := if j.p.minBreak ≤ old.count + 1 then .brk else old.state }
        else if good = true then { old with state := .good, count := 0, brk := none }
        else old
      let quiet : Nat := if isBreak ∨ heals then (s.rnc.clock + j.p.quiet * 1000) % 4294967296 else j.quiet
      let pairs := j.pairs.set j.cursor new
      reached s.rnc.clock quiet = false → reached s.rnc.clock j.maxDead = false →
      ({ j with pairs := pairs } : WatchJob).nextIndex ((j.cursor + 1) % j.pairs.length) = some i → pairs[i]? = some nx →
      s.usable nx.a = true → s.usable nx.b = true →
      let asked (t : State) : Prop :=
        t.wte = some { j with pairs := pairs, cursor := i, quiet := quiet, recOnly := false, phase := .connecting } ∧
        t.rnc.cursor = i ∧
        t.msu.window = (if nx.a = old.a ∧ nx.b = old.b then some w else none) ∧
        t.mxc = { s.mxc with held := s.mxc.held ++ [{ a := [nx.a], b := [nx.b], run := true, who := .wte }] }
      (¬(heals ∧ old.brk ≠ none) →
        ∃ t, exec (.sample raw) s = .next t ∧ asked t ∧ t.dlg.recs = s.dlg.recs ∧ t.rnc.total = s.rnc.total) ∧
      (∀ (t0 : Nat) (peak : Peak), heals → old.brk = some (t0, peak) → t0 ≤ s.rnc.clock → s.rnc.clock < 4294967296 →
        s.onlyLogged .intmit →
        ∃ t rec, exec (.sample raw) s = .next t ∧ asked t ∧ t.dlg.recs = s.dlg.recs ++ [rec] ∧
          t.rnc.total = s.rnc.total + 1 ∧ rec.kind = .intmit ∧ rec.a = old.a ∧ rec.b = some old.b ∧
          rec.value = some (s.rnc.clock - t0) ∧
          (peak = .over → rec.second = some j.p.range.fullScale ∧ rec.bound = .atLeastSecond) ∧
          (∀ y, peak = .value y → rec.second = some y ∧ rec.bound = .none)) ∧
      (heals → old.brk ≠ none → s.rnc.actions.get DefectKind.intmit.idx = .abort ∨ s.rnc.total + 1 = s.rnc.limit →
        ∃ t, exec (.sample raw) s = .next t ∧ t.live = false ∧ t.rnc.total = s.rnc.total + 1 ∧ t.wte = none ∧
          t.rnc.cursor = s.rnc.cursor))

/-- R34, R43 to R45, R143, R144: an insulation reading. At the ramp check with the bus at nine tenths of the target or more the
HVC enters DWELL and the first reading is asked for, below it the verdict is LOW_IR on IR0; in DWELL the reading after a range
change is discarded, OVER on IR1 and IR2 goes a range back, a corrected code below 5000 on IR0 and IR1 a range on, and a
reading that is not LOW sets the LOW count to 0 and a LOW one adds one to it, the verdict being LOW_IR at N. A reading under
way at the dwell time out is applied, and then the verdict is pass if there is none. The model's reading, notes/assumptions/29.md: the dwell clock stands at
the dwell time at its time out. -/
def Obligations.InsulationReadingsAreJudged : Prop :=
  ∀ (s : State) (leak hvm : Word16) (j : InsulJob), s.calm → s.msu.reading = true → s.ise = some j → j.verdict = .none →
    let clampCode (e : CalEntry) (raw : Word16) : Int :=
      max 0 (min 65535 ((max 0 (min 65535 ((raw.toNat : Int) + e.offset)) * (65536 + e.gain) + 32768) / 65536))
    let v : Nat := if hvm = 65535#16 then 1638375 else (clampCode s.msu.cal.hvm hvm).toNat * 25
    (s.hvc.state = .ramp → s.hvc.checking = true → s.hvc.energ.target * 9 ≤ v * 10 →
      exec (.insulationReading leak hvm) s = .next (transmit
        { s with
          hvc := { s.hvc with state := .dwell, checking := false, dwellClock := 0 }
          msu := { s.msu with leakRange := .ir0, reading := true }
          ise := some { j with leak := .ir0, low := 0, discard := false } })) ∧
    (s.hvc.state = .dwell → j.discard = true → j.timedOut = false →
      exec (.insulationReading leak hvm) s = .next (transmit
        { s with msu := { s.msu with reading := false }, ise := some { j with discard := false } })) ∧
    (s.hvc.state = .dwell → j.discard = false → j.timedOut = false → s.msu.leakRange = .ir2 → j.leak = .ir2 →
      leak ≠ 65535#16 →
      let pa : Nat := (clampCode s.msu.cal.ir2 leak).toNat * 10
      let q : Nat := v * 1000000 / pa
      let kohm : Nat := if pa = 0 then 4294967295 else min 4294967295 q
      let bound : Bound := if pa = 0 ∨ 4294967295 < q then .atLeast else .none
      (j.p.rmin * 1000 ≤ kohm → 1 ≤ j.p.n →
        exec (.insulationReading leak hvm) s = .next (transmit
          { s with msu := { s.msu with reading := false }, ise := some { j with low := 0 } })) ∧
      (kohm < j.p.rmin * 1000 → j.low + 1 < j.p.n →
        exec (.insulationReading leak hvm) s = .next (transmit
          { s with msu := { s.msu with reading := false }, ise := some { j with low := j.low + 1 } })) ∧
      (kohm < j.p.rmin * 1000 → j.p.n ≤ j.low + 1 → j.p.localise = true →
        ∃ t, exec (.insulationReading leak hvm) s = .next t ∧ t.hvc.state = .discharge ∧ t.hvc.timer = true ∧
          t.hvc.setpoint = 0 ∧ t.rnc = s.rnc ∧ t.dlg = s.dlg ∧
          t.ise = some { j with low := j.low + 1, verdict := .lowIr,
                                meas := { value := kohm, bound := bound, range := 5 } })) ∧
    (s.hvc.state = .ramp → s.hvc.checking = true → v * 10 < s.hvc.energ.target * 9 → s.msu.leakRange = .ir0 →
      j.p.localise = true →
      let pa : Nat := if leak = 65535#16 then 65535000 else (clampCode s.msu.cal.ir0 leak).toNat * 1000
      let kohm : Nat := if pa = 0 then 4294967295 else min 4294967295 (v * 1000000 / pa)
      ∃ t bound, exec (.insulationReading leak hvm) s = .next t ∧ t.hvc.state = .discharge ∧ t.hvc.timer = true ∧
        t.hvc.setpoint = 0 ∧ t.rnc = s.rnc ∧ t.dlg = s.dlg ∧
        t.ise = some { j with verdict := .lowIr, meas := { value := kohm, bound := bound, range := 3 } } ∧
        (leak = 65535#16 → bound = .atMost)) ∧
    (s.hvc.state = .dwell → j.discard = false → j.timedOut = false →
      s.msu.leakRange = .ir1 ∧ j.leak = .ir1 ∨ s.msu.leakRange = .ir2 ∧ j.leak = .ir2 → leak = 65535#16 →
      exec (.insulationReading leak hvm) s = .next (transmit
        { s with
          msu := { s.msu with reading := false }
          ise := some { j with leak := if j.leak = .ir2 then .ir1 else .ir0, discard := true } })) ∧
    (∀ (r : LRange) (e : CalEntry) (unit : Nat), s.hvc.state = .dwell → j.discard = false → j.timedOut = false →
      (r = .ir0 ∧ e = s.msu.cal.ir0 ∧ unit = 1000 ∨ r = .ir1 ∧ e = s.msu.cal.ir1 ∧ unit = 100) →
      s.msu.leakRange = r → j.leak = r → leak ≠ 65535#16 →
      let code : Nat := (clampCode e leak).toNat
      let kohm : Nat := if code = 0 then 4294967295 else min 4294967295 (v * 1000000 / (code * unit))
      let low : Nat := if kohm < j.p.rmin * 1000 then j.low + 1 else 0
      low < j.p.n →
      exec (.insulationReading leak hvm) s = .next (transmit
        { s with
          msu := { s.msu with reading := false }
          ise := some { j with
            low := low
            leak := if code < 5000 then (if r = .ir0 then .ir1 else .ir2) else r
            discard := decide (code < 5000) } })) ∧
    (s.hvc.state = .dwell → j.timedOut = false →
      exec .dwellTimeOut s = .next (transmit
        { s with hvc := { s.hvc with dwellClock := s.hvc.energ.dwell }, ise := some { j with timedOut := true } })) ∧
    (s.hvc.state = .dwell → j.timedOut = true → j.discard = true →
      exec (.insulationReading leak hvm) s = .next (transmit
        { s with
          hvc := { s.hvc with
            state := .discharge, setpoint := 0, holding := false, checking := false, timer := true,
            lamp := decide (30000 < s.hvc.bus) }
          msu := { s.msu with reading := false }
          ise := some { j with discard := false, verdict := .pass } }))

/-! ### High voltage -/

/-- R28, R43, R131, R98, R135: a bus monitor reading sets the bus value and the lamp and counts a millisecond of running
time; in DISCHARGE, at 30 V or below, it takes the HVC to OFF with its timer stopped and its waiters answered: the end cause
enters ENDING, a waiting batch begins its open phase (R12), a waiting window opens (R29). An energisation ends there: one
removed is asked for again, and finds a held run HELD (R146, R103); a run HELD by GUARD or LINK_LOST added in that
energisation is HELD before its permit is asked, so that no check is made; one that passed leads to the next net (R145). The
model's choices: a reading is one millisecond of the run clock, notes/assumptions/6.md; the order of record, HELD and permit at
the end of a struck energisation, notes/assumptions/44.md. -/
def Obligations.BusReadingEndsADischarge : Prop :=
  ∀ (s : State) (raw : Word16), s.calm →
    let e := s.msu.cal.hvm
    let k1 := max 0 (min 65535 ((raw.toNat : Int) + e.offset))
    let k2 := max 0 (min 65535 ((k1 * (65536 + e.gain) + 32768) / 65536))
    let v : Nat := if raw = 65535#16 then 1638375 else k2.toNat * 25
    let clock : Nat := if s.rnc.state = .running ∨ s.rnc.state = .ending then (s.rnc.clock + 1) % 4294967296 else s.rnc.clock
    let off : Hvc := { s.hvc with
      bus := v, lamp := false, state := .off, timer := false, energised := false, waiters := [] }
    (s.hvc.state ≠ .discharge ∨ 30000 < v →
      exec (.busMonitorReading raw) s = .next (transmit
        { s with
          rnc := { s.rnc with clock := clock }
          hvc := { s.hvc with bus := v, lamp := decide (30000 < v) || s.hvc.sourceOn } })) ∧
    (s.hvc.state = .discharge → v ≤ 30000 → s.rnc.struck = false → s.ise = none →
      (s.hvc.waiters = [] →
        exec (.busMonitorReading raw) s = .next (transmit { s with rnc := { s.rnc with clock := clock }, hvc := off })) ∧
      (s.hvc.waiters = [.rnc] → s.rnc.state = .running →
        ∃ t, exec (.busMonitorReading raw) s = .next t ∧ t.hvc = off ∧ t.rnc.state = .ending ∧
          t.mxc.held = s.mxc.held ++ [{ a := [], b := [], run := false, who := .teardown }]) ∧
      (∀ b : Batch, s.hvc.waiters = [.mxc] → s.msu.window = none → s.mxc.batch = some b → b.phase = .busWait →
        (∃ e ∈ s.mxc.conn, e.2 ≠ .opn ∧ b.adj.get .opn e.1 ≠ e.2) → b.req.who ≠ .reset →
        ∃ t b', exec (.busMonitorReading raw) s = .next t ∧ t.hvc = off ∧ t.mxc.batch = some b' ∧ b'.phase = .opening ∧
          b'.cmds ≠ [] ∧ b'.req = b.req ∧ b'.adj = b.adj ∧ t.mxc.conn = s.mxc.conn) ∧
      (∀ (wr : WinReq) (ws : List WinReq), s.hvc.waiters = [.msu] → s.msu.waiting = wr :: ws → s.moving = false →
        s.msu.window = none →
        exec (.busMonitorReading raw) s = .next (transmit
          { s with
            rnc := { s.rnc with clock := clock }
            hvc := off
            msu := { s.msu with
              busWait := false
              contRange := wr.range
              waiting := ws
              window := some { owner := wr.owner, la := wr.la, lb := wr.lb, sampling := false } } }))) ∧
    (∀ j : InsulJob, s.hvc.state = .discharge → v ≤ 30000 → s.hvc.waiters = [] → s.hvc.energised = true →
      s.ise = some j → j.stage = .unit → j.verdict = .none → s.rnc.state = .running → s.rnc.verdict = .none →
      s.dlg.heldBack = none → s.rnc.struck = true → s.rnc.hold.guard = true ∨ s.rnc.hold.linkLost = true →
      ∃ t, exec (.busMonitorReading raw) s = .next t ∧ t.hvc = off ∧ t.ise = some { j with phase := .parked } ∧
        t.rnc = { s.rnc with clock := clock, state := .held, waits := true, unit := none, struck := false } ∧
        t.dlg = { s.dlg with reserved := false } ∧ t.mxc = s.mxc) ∧
    (∀ j : InsulJob, s.hvc.state = .discharge → v ≤ 30000 → s.hvc.waiters = [] → s.hvc.energised = true →
      s.ise = some j → j.stage = .unit → s.rnc.state = .running → s.rnc.verdict = .none → s.dlg.entry = none →
      s.dlg.heldBack = none → s.dlg.recs.length < 256 →
      let checked : HoldSet :=
        { s.rnc.hold with
          tripLatched := s.rnc.hold.tripLatched || s.hvc.tripLatch
          guard := s.rnc.hold.guard || !s.hvc.guardClosed
          linkLost := s.rnc.hold.linkLost || s.hvc.linkExpired }
      (j.verdict = .none → s.rnc.struck = false ∨ (s.rnc.hold.guard = false ∧ s.rnc.hold.linkLost = false) →
        checked ≠ .empty →
        ∃ t, exec (.busMonitorReading raw) s = .next t ∧ t.hvc = off ∧ t.ise = some { j with phase := .parked } ∧
          t.rnc = { s.rnc with
            clock := clock, hold := checked, state := .held, waits := true, unit := none, struck := false } ∧
          t.dlg.recs = s.dlg.recs ∧ t.mxc = s.mxc) ∧
      (j.verdict = .none → checked = .empty →
        ∃ t, exec (.busMonitorReading raw) s = .next t ∧ t.hvc = off ∧ t.ise = some { j with phase := .connecting } ∧
          t.rnc.state = .running ∧
          t.mxc = { s.mxc with held := s.mxc.held ++
            [{ a := s.members j.net, b := j.cands, run := true, who := .ise }] }) ∧
      (∀ n : Nat, j.verdict = .pass → j.nets.find? (fun x => j.net < x) = some n → s.candidates n ≠ [] →
        (∃ m ∈ s.members n, s.usable m = true) → checked = .empty →
        ∃ t, exec (.busMonitorReading raw) s = .next t ∧ t.hvc = off ∧ t.rnc.cursor = n ∧ t.rnc.state = .running ∧
          t.mxc = { s.mxc with held := s.mxc.held ++
            [{ a := s.members n, b := s.candidates n, run := true, who := .ise }] }))

/-- R136, R152: the discharge timer's end: the latch and its cause are set, and the HVC is OFF with its timer stopped and its
waiters list empty. Outside a run nothing else follows. A live run ends ABORTED by DISCHARGE_FAULT (R101), after one DISCHG
record if an energisation was in progress, and without one otherwise. A run that closes out takes that cause in place of its
own, with no record, and enters ENDING (R104). A batch that waits settles FROZEN (R12), the teardown's too (R105); its matrix
faults are recorded (R20, R113), and of a LEARN search each point that first appears in its excluded list (R84). A window that
waits ends UNSAFE (R29), which ends PROBE (R205). The model's readings: the records of a FROZEN event come before the run's
end, notes/assumptions/45.md; a waiting energisation request is withdrawn, notes/assumptions/19.md; the found count of the
cleared search is 0, notes/assumptions/46.md; a timer that does not run
changes nothing, notes/assumptions/5.md. -/
def Obligations.DischargeFaultLatches : Prop :=
  ∀ s : State, s.calm →
    let latched : Hvc := { s.hvc with
      state := .off, timer := false, waiters := [], energised := false, dischLatch := true,
      safety := { s.hvc.safety with dischargeFault := true }, lamp := decide (30000 < s.hvc.bus) }
    let teardown : BatchReq := { a := [], b := [], run := false, who := .teardown }
    let ended (t : State) : Prop :=
      t.rnc.state = .ending ∧ t.rnc.verdict = .aborted ∧ t.rnc.reason = .dischargeFault ∧ t.rnc.hold = .empty ∧
      t.hvc = { latched with waitEnable := none } ∧ t.gsu = .idle ∧ t.cte = .none ∧ t.ise = none ∧ t.wte = none ∧
      t.todo = [] ∧ t.dlg.reserved = false ∧ t.mxc.batch = none ∧ t.mxc.conn = s.mxc.conn ∧
      t.mxc.held = s.mxc.held.filter (fun r => !r.run) ++ [teardown]
    let recorded (t : State) (rec : Rec) : Prop :=
      t.rnc.total = s.rnc.total + 1 ∧ rec.seq = s.rnc.total + 1 ∧ rec.b = none ∧
      (s.dlg.reserved = true ∨ s.dlg.recs.length < 256 → t.dlg.recs = s.dlg.recs ++ [rec]) ∧
      (s.dlg.reserved = false → 256 ≤ s.dlg.recs.length → t.dlg.recs = s.dlg.recs ∧ t.dlg.entry = some rec)
    (s.hvc.timer = false → exec .dischargeFault s = .next (transmit s)) ∧
    (s.hvc.state = .discharge → s.hvc.timer = true →
      (s.hvc.waiters = [] → s.active = false → s.ise = none →
        ∃ t, exec .dischargeFault s = .next t ∧ t.hvc = latched ∧ t.rnc = { s.rnc with struck := false } ∧
          t.mxc = s.mxc ∧ t.dlg = s.dlg ∧ t.nst = s.nst) ∧
      (s.hvc.waiters = [] → s.live = true → s.mxc.batch = none → s.hvc.energised = false ∨ s.ise = none →
        ∃ t, exec .dischargeFault s = .next t ∧ ended t ∧ t.rnc.total = s.rnc.total ∧ t.dlg.recs = s.dlg.recs ∧
          t.dlg.entry = s.dlg.entry) ∧
      (∀ j : InsulJob, s.hvc.waiters = [] → s.rnc.state = .running → s.rnc.verdict = .none → s.mxc.batch = none →
        s.hvc.energised = true → s.ise = some j → s.rnc.total < s.rnc.limit → s.dlg.entry = none →
        ∃ t rec, exec .dischargeFault s = .next t ∧ ended t ∧ recorded t rec ∧ rec.kind = .dischg ∧ rec.a = j.anchor ∧
          rec.value = some 0 ∧ rec.second = some j.p.volts ∧ rec.bound = .none ∧ rec.range = none ∧
          rec.step = s.rnc.step) ∧
      (s.hvc.waiters = [.rnc] → s.rnc.state = .running → s.rnc.verdict ≠ .none → s.ise = none →
        ∃ t, exec .dischargeFault s = .next t ∧ t.hvc = latched ∧
          t.rnc = { s.rnc with state := .ending, verdict := .aborted, reason := .dischargeFault, struck := false } ∧
          t.dlg = s.dlg ∧ t.mxc = { s.mxc with held := s.mxc.held ++ [teardown] }) ∧
      (∀ b : Batch, s.hvc.waiters = [.mxc] → s.mxc.batch = some b → b.phase = .busWait → s.mxc.held = [] → s.ise = none →
        (b.req.who = .teardown → s.rnc.state = .ending → s.pre.slots = [] →
          ∃ t, exec .dischargeFault s = .next t ∧ t.hvc = latched ∧
            t.rnc = { s.rnc with state := .ended, struck := false } ∧ t.mxc = { s.mxc with batch := none } ∧
            t.dlg = s.dlg) ∧
        (b.req.who = .cte → s.wte = none → s.cte ≠ .none → s.live = true →
          (b.faults = [] →
            ∃ t, exec .dischargeFault s = .next t ∧ ended t ∧ t.rnc.total = s.rnc.total ∧ t.dlg.recs = s.dlg.recs) ∧
          (∀ k : Nat, b.faults = [.lost k] → s.rnc.state = .running → 30000 < s.hvc.bus → s.rnc.total < s.rnc.limit →
            s.dlg.entry = none →
            ∃ t rec, exec .dischargeFault s = .next t ∧ ended t ∧ recorded t rec ∧ rec.kind = .matrix ∧ rec.a = k * 64 ∧
              rec.value = some (MFault.lost k).code)) ∧
        (∀ (j : LearnJob) (x : Excl), b.req.who = .gsu → s.wte = none → s.cte = .learn j → b.faults = [] → b.excl = [x] →
          x.point ∉ j.reported → s.rnc.state = .running → s.rnc.verdict = .none → 30000 < s.hvc.bus →
          s.rnc.total < s.rnc.limit → s.dlg.entry = none →
          ∃ t rec, exec .dischargeFault s = .next t ∧ ended t ∧ recorded t rec ∧ rec.kind = .untest ∧ rec.a = x.point ∧
            rec.value = some (untestReason x.point s).code)) ∧
      (∀ (w : WinReq) (ws : List WinReq), s.hvc.waiters = [.msu] → s.msu.waiting = w :: ws → s.mxc.batch = none →
        s.ise = none →
        (∀ p : Probe, w.owner = .probe → s.probe = some p → s.active = false → s.msu.window = none →
          ∃ t, exec .dischargeFault s = .next t ∧ t.hvc = latched ∧ t.probe = some { p with result := .unsafeBus } ∧
            t.msu = { s.msu with waiting := ws.filter (fun x => x.owner != .probe), busWait := false } ∧
            t.mxc = { s.mxc with held := s.mxc.held ++ [{ a := [], b := [], run := false, who := .probeOff }] }) ∧
        (w.owner = .cte → s.live = true →
          ∃ t, exec .dischargeFault s = .next t ∧ ended t ∧ t.msu.busWait = false ∧
            t.msu.waiting = ws.filter (fun x => x.owner == .probe) ∧ t.rnc.total = s.rnc.total ∧
            t.dlg.recs = s.dlg.recs)))

/-- R130, R133, R134: the enable of a waiting request under its five conditions, with the gate closed; the ramp's climb, the
hold, the ramp check; the dwell's ticks and its time out. The model's reading, notes/assumptions/29.md: the
dwell clock goes 10 ms on at a tick, and stands at the dwell time at its time out. -/
def Obligations.EnergisationRunsItsCourse : Prop :=
  ∀ s : State, s.calm →
    (∀ e : Energ, s.hvc.waitEnable = some e → s.moving = false → s.msu.window = none → s.hvc.guardClosed = true →
      s.hvc.tripLatch = false → s.hvc.dischLatch = false → s.hvc.linkExpired = false → s.rnc.state = .running →
      s.rnc.verdict = .none → s.rnc.unit = some .insulation →
      exec .energisationEnable s = .next (transmit
        { s with hvc := { s.hvc with
          state := .ramp, setpoint := 0, energ := e, energised := true, holding := false, checking := false,
          dwellClock := 0, arcCount := 0, tripRun := 0, lastFast := 0, energPeak := 0, waitEnable := none,
          lamp := true } })) ∧
    (s.hvc.state = .ramp → s.hvc.setpoint < s.hvc.energ.target →
      exec .rampTick s = .next (transmit
        { s with hvc := { s.hvc with
          setpoint := min s.hvc.energ.target (s.hvc.setpoint + s.hvc.energ.slew)
          holding := decide (s.hvc.energ.target ≤ s.hvc.setpoint + s.hvc.energ.slew) } })) ∧
    (∀ j : InsulJob, s.hvc.state = .ramp → s.hvc.holding = true → s.ise = some j →
      exec .rampCheck s = .next (transmit
        { s with
          hvc := { s.hvc with holding := false, checking := true }
          msu := { s.msu with leakRange := .ir0, reading := true } })) ∧
    (∀ j : InsulJob, s.hvc.state = .dwell → s.ise = some j → s.hvc.dwellClock + 10 < s.hvc.energ.dwell →
      exec .dwellTick s = .next (transmit
        { s with
          hvc := { s.hvc with dwellClock := s.hvc.dwellClock + 10 }
          msu := { s.msu with leakRange := j.leak, reading := true } })) ∧
    (∀ j : InsulJob, s.hvc.state = .dwell → s.ise = some j → j.verdict = .none → s.msu.reading = false →
      exec .dwellTimeOut s = .next (transmit
        { s with
          hvc := { s.hvc with
            dwellClock := s.hvc.energ.dwell, state := .discharge, setpoint := 0, holding := false, checking := false,
            timer := true, lamp := decide (30000 < s.hvc.bus) }
          ise := some { j with verdict := .pass } }))

/-- R132, R138, R139: a fast reading with the source enabled raises the peaks and counts; a reading that rises through the arc
threshold is an arc. R138, R145: when the trip run reaches the delay plus one the source goes off and the trip latches, before
any arc; at the arc limit the source goes off. The ISE then drops the reading under way, fixes TRIP or ARC, and creates its
record with the energisation's peak or the number of arcs, whose action applies (R100). With the source disabled a reading
changes nothing. The model's choice, notes/assumptions/27.md: the operand counts steps of 1000 pA. -/
def Obligations.FastReadingTripsAndArcs : Prop :=
  ∀ (s : State) (n : Nat), s.calm →
    let pa : Nat := min 100000000 (n * 1000)
    let run : Nat := if s.hvc.energ.tripLevel < pa then s.hvc.tripRun + 1 else 0
    let counted : Hvc := { s.hvc with
      energPeak := max s.hvc.energPeak pa, peakHold := max s.hvc.peakHold pa, tripRun := run, lastFast := pa }
    let down (h : Hvc) : Hvc := { h with
      state := .discharge, setpoint := 0, holding := false, checking := false, timer := true,
      lamp := decide (30000 < s.hvc.bus) }
    let arc : Prop := s.hvc.energ.arcThr < pa ∧ s.hvc.lastFast ≤ s.hvc.energ.arcThr
    let arcs : Nat := s.hvc.arcCount + 1
    (s.hvc.sourceOn = false → exec (.fastReading n) s = .next (transmit s)) ∧
    (s.hvc.sourceOn = true → run ≤ s.hvc.energ.tripDelay → ¬arc →
      exec (.fastReading n) s = .next (transmit { s with hvc := counted })) ∧
    (s.hvc.sourceOn = true → run ≤ s.hvc.energ.tripDelay → arc → arcs < s.hvc.energ.arcLimit →
      exec (.fastReading n) s = .next (transmit { s with hvc := { counted with arcCount := arcs } })) ∧
    (∀ j : InsulJob, s.hvc.sourceOn = true → s.ise = some j → j.verdict = .none → s.rnc.state = .running →
      s.rnc.verdict = .none → s.dlg.entry = none → s.dlg.heldBack = none → s.mxc.batch = none →
      let fixed (t : State) (k : DefectKind) (v : InsulVerdict) (value : Nat) (hv : Hvc) : Prop :=
        let act := s.rnc.actions.get k.idx
        let ends : Prop := act = .abort ∨ s.rnc.total + 1 = s.rnc.limit
        t.msu.reading = false ∧ t.rnc.total = s.rnc.total + 1 ∧
        (∃ rec : Rec, rec.kind = k ∧ rec.a = j.anchor ∧ rec.b = none ∧ rec.value = some value ∧ rec.bound = .none ∧
          rec.second = some j.p.volts ∧ rec.range = none ∧ rec.seq = s.rnc.total + 1 ∧ rec.time = s.rnc.clock ∧
          (s.dlg.reserved = true ∨ s.dlg.recs.length < 256 → t.dlg.recs = s.dlg.recs ++ [rec]) ∧
          (s.dlg.reserved = false → 256 ≤ s.dlg.recs.length → t.dlg.recs = s.dlg.recs ∧ t.dlg.entry = some rec)) ∧
        (¬ends → t.ise = some { j with verdict := v } ∧ t.hvc = hv ∧ t.rnc.state = .running ∧ t.rnc.verdict = .none ∧
          t.rnc.hold = if act = .log then s.rnc.hold
            else if k = .trip then { s.rnc.hold with tripLatched := true } else { s.rnc.hold with operator := true }) ∧
        (ends → t.ise = none ∧ t.rnc.hold = .empty ∧ t.hvc.state = .discharge ∧ t.hvc.timer = true ∧
          t.hvc.tripLatch = hv.tripLatch ∧ t.hvc.safety = hv.safety ∧ Waiter.rnc ∈ t.hvc.waiters ∧
          (act = .abort → t.rnc.verdict = .aborted ∧ t.rnc.reason = .defectAbort) ∧
          (act ≠ .abort → t.rnc.verdict = .fail ∧ t.rnc.reason = .limit))
      (s.hvc.energ.tripDelay + 1 ≤ run →
        ∃ t, exec (.fastReading n) s = .next t ∧
          fixed t .trip .trip (max s.hvc.energPeak pa)
            { down counted with tripLatch := true, safety := { s.hvc.safety with trip := true } }) ∧
      (run ≤ s.hvc.energ.tripDelay → arc → s.hvc.energ.arcLimit ≤ arcs →
        ∃ t, exec (.fastReading n) s = .next t ∧
          fixed t .arc .arc arcs (down { counted with arcCount := arcs })))

/-- R150, R103, R146: the guard's opening latches its cause and, in RAMP or DWELL, removes high voltage and the ISE's verdict
with it; in an INSUL step of a live run GUARD joins the hold set, and, added anew during an
energisation, makes the run HELD at its end. An energisation request that waits is refused, and the run is HELD at the permit
it asks for again (R143). The guard closing latches nothing. -/
def Obligations.GuardRemovesHighVoltage : Prop :=
  ∀ s : State, s.calm →
    (∀ (j : InsulJob) (e : Energ), s.hvc.guardClosed = true → s.hvc.sourceOn = false → s.hvc.energised = false →
      s.hvc.waitEnable = some e → s.ise = some j → j.stage = .unit → s.rnc.state = .running → s.rnc.verdict = .none →
      s.dlg.entry = none → s.dlg.heldBack = none → s.dlg.recs.length < 256 → s.hvc.tripLatch = false →
      s.hvc.linkExpired = false →
      ∃ t, exec .guardOpen s = .next t ∧
        t.hvc = { s.hvc with
          guardClosed := false, safety := { s.hvc.safety with guardOpened := true }, waitEnable := none } ∧
        t.rnc = { s.rnc with
          hold := { s.rnc.hold with guard := true }, state := .held, waits := true, unit := none } ∧
        t.ise = some { j with phase := .parked } ∧ t.mxc = s.mxc ∧ t.dlg.recs = s.dlg.recs) ∧
    (s.hvc.waitEnable = none →
    (exec .guardClose s = .next (transmit { s with hvc := { s.hvc with guardClosed := true } })) ∧
    (s.hvc.guardClosed = false → exec .guardOpen s = .next (transmit s)) ∧
    (s.hvc.guardClosed = true → s.hvc.sourceOn = false →
      ∃ t, exec .guardOpen s = .next t ∧
        t.hvc = { s.hvc with guardClosed := false, safety := { s.hvc.safety with guardOpened := true } } ∧
        t.rnc = (if s.live = true ∧ s.ise.isSome = true then
          { s.rnc with
            hold := { s.rnc.hold with guard := true }
            struck := s.rnc.struck || (!s.rnc.hold.guard && s.hvc.energised) } else s.rnc) ∧
        t.mxc = s.mxc ∧ t.msu = s.msu ∧ t.ise = s.ise) ∧
    (∀ j : InsulJob, s.hvc.guardClosed = true → s.hvc.sourceOn = true → s.ise = some j → j.verdict = .none →
      s.live = true →
      ∃ t, exec .guardOpen s = .next t ∧ t.hvc.state = .discharge ∧ t.hvc.timer = true ∧ t.hvc.setpoint = 0 ∧
        t.hvc.guardClosed = false ∧ t.hvc.safety.guardOpened = true ∧ t.rnc.hold.guard = true ∧
        (s.rnc.hold.guard = false → s.hvc.energised = true → t.rnc.struck = true) ∧ t.rnc.state = s.rnc.state ∧
        t.ise = some { j with removed := true } ∧ t.msu.reading = false ∧ t.dlg = s.dlg))

/-! ### The printer -/

/-- R182, R191: at a character boundary PAPER is looked at, then BUSY, then the next character goes on the wire; PAPER going
absent while a character waits enters NO_PAPER, its return looks at BUSY afresh, the fall of BUSY sends the character, from
STALLED back in PRINTING, and the BUSY timer's end enters STALLED. R186 to R190, R177: what follows the end of a line: the
header's next line; after the header IDLE, if nothing is to be printed; the defect line after its step line; the next record,
with a step line if its step is new; the footer's next line; after the footer the slot is free and the next slot's header
begins. R181, R188: a defect line has at most 40 characters. The model's choices: CHARACTER_SENT and PAPER_CHANGE carry
the level of BUSY, notes/assumptions/10.md; the title line is the title as stored, trailing blanks included,
notes/assumptions/42.md. -/
def Obligations.PrinterObeysItsInputs : Prop :=
  (∀ (s : State) (l : Line) (c : Byte) (rest : List Byte), s.calm → s.pre.line = some l → l.rest = c :: rest →
    s.pre.disPending = false →
    let sending (p : Pre) : Pre :=
      { p with busyTimer := false, onWire := some c, line := some { l with rest := rest, sent := l.sent + 1 } }
    (∀ x, s.pre.onWire = some x → s.pre.state = .printing →
      (s.pre.paper = true →
        exec (.characterSent false) s = .next (transmit { s with pre := sending { s.pre with busy := false } }) ∧
        exec (.characterSent true) s = .next (transmit
          { s with pre := { s.pre with busy := true, onWire := none, busyTimer := s.pre.timeout != 0 } })) ∧
      (s.pre.paper = false → ∀ busy, ∃ t, exec (.characterSent busy) s = .next t ∧
        t.pre = { s.pre with busy := busy, onWire := none, busyTimer := false, state := .noPaper } ∧ t.dlg = s.dlg)) ∧
    (s.pre.onWire = none → s.pre.state = .printing →
      (s.pre.paper = true →
        exec .busyFall s = .next (transmit { s with pre := sending { s.pre with busy := false } })) ∧
      (∃ t, exec (.paperChange false s.pre.busy) s = .next t ∧
        t.pre = { s.pre with paper := false, busyTimer := false, state := .noPaper } ∧ t.dlg = s.dlg) ∧
      (s.pre.busyTimer = true → ∃ t, exec .busyTimeout s = .next t ∧
        t.pre = { s.pre with busyTimer := false, state := .stalled } ∧ t.dlg = s.dlg)) ∧
    (s.pre.onWire = none → s.pre.state = .stalled →
      (s.pre.paper = true → ∃ t, exec .busyFall s = .next t ∧
        t.pre = sending { s.pre with busy := false, state := .printing } ∧ t.dlg = s.dlg) ∧
      (∃ t, exec (.paperChange false s.pre.busy) s = .next t ∧
        t.pre = { s.pre with paper := false, busyTimer := false, state := .noPaper } ∧ t.dlg = s.dlg)) ∧
    (s.pre.onWire = none → s.pre.state = .noPaper →
      (∃ t, exec (.paperChange true false) s = .next t ∧
        t.pre = sending { s.pre with paper := true, busy := false, state := .printing } ∧ t.dlg = s.dlg) ∧
      (∃ t, exec (.paperChange true true) s = .next t ∧
        t.pre = { s.pre with paper := true, busy := true, state := .printing, busyTimer := s.pre.timeout != 0 } ∧
        t.dlg = s.dlg) ∧
      exec .busyFall s = .next (transmit { s with pre := { s.pre with busy := false } }))) ∧
  (∀ (s : State) (l : Line) (x : Byte) (sl : Slot) (sls : List Slot), s.calm → s.pre.line = some l → l.rest = [] →
    s.pre.onWire = some x → s.pre.state = .printing → s.pre.paper = true → s.pre.disPending = false →
    s.pre.slots = sl :: sls →
    let sends (t : State) (k : LineKind) (slot : Nat) (text : List Byte) : Prop :=
      t.pre.line = some { rest := (text ++ [13#8, 10#8]).tail, sent := 1, kind := k, slot := slot, baud := s.pre.baud } ∧
      t.pre.onWire = (text ++ [13#8, 10#8]).head? ∧ t.pre.state = .printing ∧ t.pre.busyTimer = false
    let ended (t : State) : Prop := exec (.characterSent false) s = .next t
    (l.kind = .headerRun → sl.title ≠ [] →
      ∃ t, ended t ∧ sends t .headerTitle sl.number sl.title ∧ t.pre.slots = s.pre.slots ∧ t.dlg = s.dlg) ∧
    ((l.kind = .headerRun ∧ sl.title = [] ∨ l.kind = .headerTitle) → sl.uncal = true →
      ∃ t, ended t ∧ sends t .headerUncal sl.number (ascii "UNCALIBRATED") ∧ t.pre.slots = s.pre.slots ∧ t.dlg = s.dlg) ∧
    ((l.kind = .headerUncal ∨ sl.uncal = false ∧ (l.kind = .headerRun ∧ sl.title = [] ∨ l.kind = .headerTitle)) →
      sl.ended = none → (∀ r ∈ s.dlg.recs, r.print = true → r.run ≠ sl.runNo) →
      ∃ t, ended t ∧ t.pre.state = .idle ∧ t.pre.line = none ∧ t.pre.onWire = none ∧
        t.pre.slots = { sl with header := true } :: sls ∧ t.dlg = s.dlg) ∧
    (∀ r : Rec, l.kind = .step → s.pre.inPrint = some r →
      ∃ t, ended t ∧ sends t .defect sl.number (defectText r) ∧
        t.pre.slots = { sl with lastStep := some r.step } :: sls ∧ t.dlg = s.dlg) ∧
    (∀ (r1 r2 : Rec) (rs : List Rec), l.kind = .defect → sl.header = true → s.dlg.recs = r1 :: r2 :: rs →
      r1.inPrint = true → r1.host = true → r2.inPrint = false → r2.print = true → r2.run = sl.runNo →
      (∀ r ∈ rs, r.inPrint = false ∧ (r.host = true ∨ r.print = true)) →
      ∃ t, ended t ∧ t.pre.inPrint = some r2 ∧ t.pre.slots = s.pre.slots ∧
        t.dlg.recs = { r1 with print := false, inPrint := false } :: { r2 with inPrint := true } :: rs ∧
        (sl.lastStep = some r2.step → sends t .defect sl.number (defectText r2)) ∧
        (sl.lastStep ≠ some r2.step →
          sends t .step sl.number (ascii "-- STEP " ++ zeroPad 2 r2.step ++ [32#8] ++ stepWord sl r2.step))) ∧
    (∀ (e : RunEnd) (i : Nat), l.kind = .footer i → sl.ended = some e →
      (∀ text, (footerLines e)[i + 1]? = some text →
        ∃ t, ended t ∧ sends t (.footer (i + 1)) sl.number text ∧ t.pre.slots = s.pre.slots ∧ t.dlg = s.dlg) ∧
      ((footerLines e).length ≤ i + 1 →
        (sls = [] → ∃ t, ended t ∧ t.pre.state = .idle ∧ t.pre.line = none ∧ t.pre.slots = [] ∧ t.dlg = s.dlg) ∧
        (∀ (sl2 : Slot) (more : List Slot), sls = sl2 :: more → sl2.header = false →
          ∃ t, ended t ∧ t.pre.slots = sls ∧ t.dlg = s.dlg ∧
            sends t .headerRun sl2.number (ascii "RUN " ++ zeroPad 5 sl2.runNo ++ [32#8, 32#8] ++ kindText sl2.kind ++
              [32#8, 32#8] ++ ascii "NETS " ++ zeroPad 4 sl2.nets))))) ∧
  (∀ r : Rec, r.seq < 65536 → r.a < 4096 → (∀ b, r.b = some b → b < 4096) →
    (∀ v, r.value = some v → v < 4294967296 ∧
      (r.kind = .opn ∨ r.kind = .highR ∨ r.kind = .unstbl ∨ r.kind = .short → v ≤ 10485600)) →
    (defectText r).length ≤ 40)

/-! ### The host line -/

/-- R196: what the assembler does with a byte that completes no accepted frame, and with a gap; by the model's choice
(notes/assumptions/5.md) a gap in HUNT changes nothing. -/
def Obligations.AssemblerTakesBytes : Prop :=
  ∀ (s : State) (b : Byte), s.calm →
    let discarded : Flk := { s.flk with asm := .hunt, discards := min 65535 (s.flk.discards + 1) }
    (s.flk.asm = .hunt →
      exec (.receivedByte b) s = .next (transmit
        { s with flk := { s.flk with asm := if b = 0xC3#8 then .length else .hunt } }) ∧
      exec .interByteGapTimeout s = .next (transmit s)) ∧
    (s.flk.asm ≠ .hunt → exec .interByteGapTimeout s = .next (transmit { s with flk := discarded })) ∧
    (s.flk.asm = .length →
      exec (.receivedByte b) s = .next (transmit
        { s with flk := if 1 ≤ b.toNat ∧ b.toNat ≤ 250 then { s.flk with asm := .body b.toNat [] } else discarded })) ∧
    (∀ l got, s.flk.asm = .body l got →
      exec (.receivedByte b) s = .next (transmit
        { s with flk := { s.flk with
          asm := if l ≤ got.length + 1 then .check l (got ++ [b]) else .body l (got ++ [b]) } })) ∧
    (∀ l got, s.flk.asm = .check l got → ((got.map BitVec.toNat).sum + l + b.toNat) % 256 ≠ 0 →
      exec (.receivedByte b) s = .next (transmit { s with flk := discarded }))

/-- R195, R196: the bytes of every frame, sent to an assembler in HUNT, are assembled into that frame, accepted at its last
byte and discarded at none. -/
def Obligations.FramesAreAssembled : Prop :=
  ∀ f : Frame, f.payload.length ≤ 249 →
    f.bytes.foldl (fun (acc : Asm × List AsmResult) b =>
      ((asmByte acc.1 b).1, acc.2 ++ [(asmByte acc.1 b).2])) (.hunt, []) =
    (.hunt, List.replicate (f.payload.length + 3) .none ++ [.accept f.type f.payload])

/-- R198, R206: every well-formed request, written as a type and payload and read again, is itself. -/
def Obligations.RequestsReadAsWritten : Prop :=
  ∀ (i : Instr) (t : Byte) (p : List Byte), i.wellFormed = true → encodeRequest i = some (t, p) →
    p.length ≤ 249 ∧ decodeRequest t p = .ok i

/-- R197, R199, R202: a frame's last byte frees the transmitter; after a reply the link may take the next request, which
here there is none of. R176: after a streamed N-DEFECT the oldest record in stream loses its host mark, and leaves the log
without a print mark. R202, R103, R151: the watchdog's end sets expired, stops its timer, latches LINK_LOST and holds a live
run; with the source enabled it removes high voltage, and an energisation that waits is refused, so that its run is HELD at
the permit it asks for again. The model's choices, notes/assumptions/17.md: the transmitter goes on before the next request
is looked at; notes/assumptions/5.md: an expiry with no timer running changes nothing. -/
def Obligations.FrameSentAndWatchdogExpiry : Prop :=
  ∀ s : State, s.calm →
    let lost : Hvc := { s.hvc with linkExpired := true, safety := { s.hvc.safety with linkLost := true } }
    let struckRnc : Rnc := { s.rnc with
      hold := { s.rnc.hold with linkLost := true }
      struck := s.rnc.struck || (!s.rnc.hold.linkLost && s.hvc.energised) }
    (∀ w : Wire, s.flk.wire = some w → w.stream = false →
      exec .frameSent s = .next (transmit
        { s with flk := { s.flk with wire := none, busy := if w.isReply then false else s.flk.busy } })) ∧
    (∀ (w : Wire) (xs ys : List Rec) (r : Rec), s.flk.wire = some w → w.stream = true → w.isReply = false →
      s.dlg.recs = xs ++ r :: ys → (∀ x ∈ xs, x.inStream = false) → r.inStream = true →
      (∀ x ∈ s.dlg.recs, x.host = true ∨ x.print = true) →
      r.print = true ∨ s.dlg.entry = none ∧ s.rnc.hold.logFull = false →
      exec .frameSent s = .next (transmit
        { s with
          flk := { s.flk with wire := none }
          dlg := { s.dlg with
            recs := xs ++ (if r.print then [{ r with host := false, inStream := false }] else []) ++ ys } })) ∧
    (s.flk.wdRunning = false → exec .linkWatchdogExpiry s = .next (transmit s)) ∧
    (s.flk.wdRunning = true → s.hvc.sourceOn = false → s.hvc.waitEnable = none →
      ∃ t, exec .linkWatchdogExpiry s = .next t ∧ t.flk.expired = true ∧ t.flk.ranOut = true ∧ t.flk.wdRunning = false ∧
        t.hvc = lost ∧ t.rnc = (if s.live = true then struckRnc else s.rnc) ∧
        t.mxc = s.mxc ∧ t.nst = s.nst ∧ t.dlg = s.dlg) ∧
    (∀ j : InsulJob, s.flk.wdRunning = true → s.hvc.sourceOn = true → s.hvc.waitEnable = none → s.ise = some j →
      j.verdict = .none → s.live = true →
      ∃ t, exec .linkWatchdogExpiry s = .next t ∧ t.flk.expired = true ∧ t.flk.ranOut = true ∧ t.flk.wdRunning = false ∧
        t.hvc = { lost with state := .discharge, setpoint := 0, holding := false, checking := false, timer := true,
                            lamp := decide (30000 < s.hvc.bus) } ∧
        t.rnc = struckRnc ∧ t.ise = some { j with removed := true } ∧ t.msu.reading = false ∧ t.dlg = s.dlg ∧
        t.mxc = s.mxc) ∧
    (∀ (j : InsulJob) (e : Energ), s.flk.wdRunning = true → s.hvc.sourceOn = false → s.hvc.energised = false →
      s.hvc.waitEnable = some e → s.ise = some j → j.stage = .unit → s.rnc.state = .running → s.rnc.verdict = .none →
      s.dlg.entry = none → s.dlg.heldBack = none → s.dlg.recs.length < 256 → s.hvc.guardClosed = true →
      s.hvc.tripLatch = false →
      ∃ t, exec .linkWatchdogExpiry s = .next t ∧ t.flk.expired = true ∧ t.flk.ranOut = true ∧ t.flk.wdRunning = false ∧
        t.hvc = { lost with waitEnable := none } ∧
        t.rnc = { s.rnc with
          hold := { s.rnc.hold with linkLost := true }, state := .held, waits := true, unit := none } ∧
        t.ise = some { j with phase := .parked } ∧ t.mxc = s.mxc ∧ t.dlg.recs = s.dlg.recs)

/-! ### Laws of the device, kept by every step -/

/-- R6, R130, R33, R13, R103, R86, R100, R172, R184, R196, R197, R202, R2: the laws hold after reset. -/
def Obligations.ResetMeetsTheLaws : Prop :=
  State.reset.pointLaw ∧ State.reset.sourceLaw ∧ State.reset.gateLaw ∧ State.reset.movingLaw ∧ State.reset.closedLaw ∧
  State.reset.logLaw ∧ State.reset.planLaw ∧ State.reset.linkLaw ∧ State.reset.limitLaw ∧ State.reset.marksLaw ∧
  State.reset.slotsLaw ∧ State.reset.scanLaw

/-- R6: every step keeps a quarantined or absent point OPEN. R2, R23, R24: a card scan stays within a reset, on one of the 64
slots and with no batch in flight. -/
def Obligations.EveryStepKeepsThePointLaw : Prop :=
  (∀ s t : State, s.pointLaw → step s = .next t → t.pointLaw) ∧
  (∀ s t : State, s.scanLaw → step s = .next t → t.scanLaw)

/-- R130, R33, R29: every step keeps the source disabled unless the guard is closed, the latches clear and the link not
expired, and keeps the source gate and the HV source from being open together. R13: every step keeps the gate closed and the
source disabled while the matrix is moving, and a step in which it begins to move ends with the bus at or below 30 V. R103:
every step keeps the source disabled with no active run, in ENDING and while closing out; no step enables it in a state other
than RUNNING, HELD among them; a step that enters ENDING ends with the bus at or below 30 V or the discharge-fault latch
set. -/
def Obligations.EveryStepKeepsTheSourceAndGateLaws : Prop :=
  ∀ s t : State, s.sourceLaw ∧ s.gateLaw ∧ s.movingLaw ∧ s.closedLaw → step s = .next t →
    t.sourceLaw ∧ t.gateLaw ∧ t.movingLaw ∧ t.closedLaw ∧
    (s.moving = false → t.moving = true → t.hvc.bus ≤ 30000) ∧
    (s.rnc.state ≠ .running → s.hvc.sourceOn = false → t.hvc.sourceOn = false) ∧
    (s.rnc.state ≠ .ending → t.rnc.state = .ending → t.hvc.bus ≤ 30000 ∨ t.hvc.dischLatch = true)

/-- R172, R173, R86, R196, R197, R202: every step keeps the log within its 256 slots, the plan within its 32 steps, the request
list within four, the discard count and the watchdog period within their limits. R100: it keeps an active run's total within
the limit, and below it until the run has its end cause; R104: only a run that closes out waits for the bus. R172: every record in the log holds a mark. R184: at most two
summary slots are occupied. -/
def Obligations.EveryStepKeepsTheCapacities : Prop :=
  ∀ s t : State, s.logLaw ∧ s.planLaw ∧ s.linkLaw ∧ s.limitLaw ∧ s.marksLaw ∧ s.slotsLaw → step s = .next t →
    t.logLaw ∧ t.planLaw ∧ t.linkLaw ∧ t.limitLaw ∧ t.marksLaw ∧ t.slotsLaw
end

