-- ==== Sys2Proof/Laws/State.lean ====
section
/-! SUPPORT. The fields of a state after each named update, one lemma for each field. -/

namespace Sys2Proof.Machine

variable (s : State)

@[simp] theorem later_pending (acts : List Act) : (later acts s).pending = s.pending := rfl
@[simp] theorem later_mxc (acts : List Act) : (later acts s).mxc = s.mxc := rfl
@[simp] theorem later_msu (acts : List Act) : (later acts s).msu = s.msu := rfl
@[simp] theorem later_hvc (acts : List Act) : (later acts s).hvc = s.hvc := rfl
@[simp] theorem later_nst (acts : List Act) : (later acts s).nst = s.nst := rfl
@[simp] theorem later_gsu (acts : List Act) : (later acts s).gsu = s.gsu := rfl
@[simp] theorem later_rnc (acts : List Act) : (later acts s).rnc = s.rnc := rfl
@[simp] theorem later_cte (acts : List Act) : (later acts s).cte = s.cte := rfl
@[simp] theorem later_ise (acts : List Act) : (later acts s).ise = s.ise := rfl
@[simp] theorem later_wte (acts : List Act) : (later acts s).wte = s.wte := rfl
@[simp] theorem later_todo (acts : List Act) : (later acts s).todo = s.todo ++ acts := rfl
@[simp] theorem later_dlg (acts : List Act) : (later acts s).dlg = s.dlg := rfl
@[simp] theorem later_pre (acts : List Act) : (later acts s).pre = s.pre := rfl
@[simp] theorem later_flk (acts : List Act) : (later acts s).flk = s.flk := rfl
@[simp] theorem later_probe (acts : List Act) : (later acts s).probe = s.probe := rfl
@[simp] theorem later_resetting (acts : List Act) : (later acts s).resetting = s.resetting := rfl
@[simp] theorem later_free (acts : List Act) : (later acts s).free = s.free := rfl

@[simp] theorem next_pending (acts : List Act) : (next acts s).pending = s.pending := rfl
@[simp] theorem next_mxc (acts : List Act) : (next acts s).mxc = s.mxc := rfl
@[simp] theorem next_msu (acts : List Act) : (next acts s).msu = s.msu := rfl
@[simp] theorem next_hvc (acts : List Act) : (next acts s).hvc = s.hvc := rfl
@[simp] theorem next_nst (acts : List Act) : (next acts s).nst = s.nst := rfl
@[simp] theorem next_gsu (acts : List Act) : (next acts s).gsu = s.gsu := rfl
@[simp] theorem next_rnc (acts : List Act) : (next acts s).rnc = s.rnc := rfl
@[simp] theorem next_cte (acts : List Act) : (next acts s).cte = s.cte := rfl
@[simp] theorem next_ise (acts : List Act) : (next acts s).ise = s.ise := rfl
@[simp] theorem next_wte (acts : List Act) : (next acts s).wte = s.wte := rfl
@[simp] theorem next_todo (acts : List Act) : (next acts s).todo = acts ++ s.todo := rfl
@[simp] theorem next_dlg (acts : List Act) : (next acts s).dlg = s.dlg := rfl
@[simp] theorem next_pre (acts : List Act) : (next acts s).pre = s.pre := rfl
@[simp] theorem next_flk (acts : List Act) : (next acts s).flk = s.flk := rfl
@[simp] theorem next_probe (acts : List Act) : (next acts s).probe = s.probe := rfl
@[simp] theorem next_resetting (acts : List Act) : (next acts s).resetting = s.resetting := rfl
@[simp] theorem next_free (acts : List Act) : (next acts s).free = s.free := rfl

@[simp] theorem place_pending (f : Frame) : (place f s).pending = s.pending := rfl
@[simp] theorem place_mxc (f : Frame) : (place f s).mxc = s.mxc := rfl
@[simp] theorem place_msu (f : Frame) : (place f s).msu = s.msu := rfl
@[simp] theorem place_hvc (f : Frame) : (place f s).hvc = s.hvc := rfl
@[simp] theorem place_nst (f : Frame) : (place f s).nst = s.nst := rfl
@[simp] theorem place_gsu (f : Frame) : (place f s).gsu = s.gsu := rfl
@[simp] theorem place_rnc (f : Frame) : (place f s).rnc = s.rnc := rfl
@[simp] theorem place_cte (f : Frame) : (place f s).cte = s.cte := rfl
@[simp] theorem place_ise (f : Frame) : (place f s).ise = s.ise := rfl
@[simp] theorem place_wte (f : Frame) : (place f s).wte = s.wte := rfl
@[simp] theorem place_todo (f : Frame) : (place f s).todo = s.todo := rfl
@[simp] theorem place_dlg (f : Frame) : (place f s).dlg = s.dlg := rfl
@[simp] theorem place_pre (f : Frame) : (place f s).pre = s.pre := rfl
@[simp] theorem place_flk (f : Frame) : (place f s).flk = { s.flk with reply := some f } := rfl
@[simp] theorem place_probe (f : Frame) : (place f s).probe = s.probe := rfl
@[simp] theorem place_resetting (f : Frame) : (place f s).resetting = s.resetting := rfl
@[simp] theorem place_free (f : Frame) : (place f s).free = s.free := rfl

@[simp] theorem answer_pending (t : Byte) (p : List Byte) : (answer t p s).pending = s.pending := rfl
@[simp] theorem answer_mxc (t : Byte) (p : List Byte) : (answer t p s).mxc = s.mxc := rfl
@[simp] theorem answer_msu (t : Byte) (p : List Byte) : (answer t p s).msu = s.msu := rfl
@[simp] theorem answer_hvc (t : Byte) (p : List Byte) : (answer t p s).hvc = s.hvc := rfl
@[simp] theorem answer_nst (t : Byte) (p : List Byte) : (answer t p s).nst = s.nst := rfl
@[simp] theorem answer_gsu (t : Byte) (p : List Byte) : (answer t p s).gsu = s.gsu := rfl
@[simp] theorem answer_rnc (t : Byte) (p : List Byte) : (answer t p s).rnc = s.rnc := rfl
@[simp] theorem answer_cte (t : Byte) (p : List Byte) : (answer t p s).cte = s.cte := rfl
@[simp] theorem answer_ise (t : Byte) (p : List Byte) : (answer t p s).ise = s.ise := rfl
@[simp] theorem answer_wte (t : Byte) (p : List Byte) : (answer t p s).wte = s.wte := rfl
@[simp] theorem answer_todo (t : Byte) (p : List Byte) : (answer t p s).todo = s.todo := rfl
@[simp] theorem answer_dlg (t : Byte) (p : List Byte) : (answer t p s).dlg = s.dlg := rfl
@[simp] theorem answer_pre (t : Byte) (p : List Byte) : (answer t p s).pre = s.pre := rfl
@[simp] theorem answer_flk (t : Byte) (p : List Byte) : (answer t p s).flk = { s.flk with reply := some (replyFrame t p) } := rfl
@[simp] theorem answer_probe (t : Byte) (p : List Byte) : (answer t p s).probe = s.probe := rfl
@[simp] theorem answer_resetting (t : Byte) (p : List Byte) : (answer t p s).resetting = s.resetting := rfl
@[simp] theorem answer_free (t : Byte) (p : List Byte) : (answer t p s).free = s.free := rfl

@[simp] theorem refuse_pending (t : Byte) (c : RefusalCode) : (refuse t c s).pending = s.pending := rfl
@[simp] theorem refuse_mxc (t : Byte) (c : RefusalCode) : (refuse t c s).mxc = s.mxc := rfl
@[simp] theorem refuse_msu (t : Byte) (c : RefusalCode) : (refuse t c s).msu = s.msu := rfl
@[simp] theorem refuse_hvc (t : Byte) (c : RefusalCode) : (refuse t c s).hvc = s.hvc := rfl
@[simp] theorem refuse_nst (t : Byte) (c : RefusalCode) : (refuse t c s).nst = s.nst := rfl
@[simp] theorem refuse_gsu (t : Byte) (c : RefusalCode) : (refuse t c s).gsu = s.gsu := rfl
@[simp] theorem refuse_rnc (t : Byte) (c : RefusalCode) : (refuse t c s).rnc = s.rnc := rfl
@[simp] theorem refuse_cte (t : Byte) (c : RefusalCode) : (refuse t c s).cte = s.cte := rfl
@[simp] theorem refuse_ise (t : Byte) (c : RefusalCode) : (refuse t c s).ise = s.ise := rfl
@[simp] theorem refuse_wte (t : Byte) (c : RefusalCode) : (refuse t c s).wte = s.wte := rfl
@[simp] theorem refuse_todo (t : Byte) (c : RefusalCode) : (refuse t c s).todo = s.todo := rfl
@[simp] theorem refuse_dlg (t : Byte) (c : RefusalCode) : (refuse t c s).dlg = s.dlg := rfl
@[simp] theorem refuse_pre (t : Byte) (c : RefusalCode) : (refuse t c s).pre = s.pre := rfl
@[simp] theorem refuse_flk (t : Byte) (c : RefusalCode) : (refuse t c s).flk = { s.flk with reply := some (refusedFrame t c) } := rfl
@[simp] theorem refuse_probe (t : Byte) (c : RefusalCode) : (refuse t c s).probe = s.probe := rfl
@[simp] theorem refuse_resetting (t : Byte) (c : RefusalCode) : (refuse t c s).resetting = s.resetting := rfl
@[simp] theorem refuse_free (t : Byte) (c : RefusalCode) : (refuse t c s).free = s.free := rfl

@[simp] theorem setCont_pending (j : ContJob) : (setCont j s).pending = s.pending := rfl
@[simp] theorem setCont_mxc (j : ContJob) : (setCont j s).mxc = s.mxc := rfl
@[simp] theorem setCont_msu (j : ContJob) : (setCont j s).msu = s.msu := rfl
@[simp] theorem setCont_hvc (j : ContJob) : (setCont j s).hvc = s.hvc := rfl
@[simp] theorem setCont_nst (j : ContJob) : (setCont j s).nst = s.nst := rfl
@[simp] theorem setCont_gsu (j : ContJob) : (setCont j s).gsu = s.gsu := rfl
@[simp] theorem setCont_rnc (j : ContJob) : (setCont j s).rnc = s.rnc := rfl
@[simp] theorem setCont_cte (j : ContJob) : (setCont j s).cte = .cont j := rfl
@[simp] theorem setCont_ise (j : ContJob) : (setCont j s).ise = s.ise := rfl
@[simp] theorem setCont_wte (j : ContJob) : (setCont j s).wte = s.wte := rfl
@[simp] theorem setCont_todo (j : ContJob) : (setCont j s).todo = s.todo := rfl
@[simp] theorem setCont_dlg (j : ContJob) : (setCont j s).dlg = s.dlg := rfl
@[simp] theorem setCont_pre (j : ContJob) : (setCont j s).pre = s.pre := rfl
@[simp] theorem setCont_flk (j : ContJob) : (setCont j s).flk = s.flk := rfl
@[simp] theorem setCont_probe (j : ContJob) : (setCont j s).probe = s.probe := rfl
@[simp] theorem setCont_resetting (j : ContJob) : (setCont j s).resetting = s.resetting := rfl
@[simp] theorem setCont_free (j : ContJob) : (setCont j s).free = s.free := rfl

@[simp] theorem setZero_pending (j : ZeroJob) : (setZero j s).pending = s.pending := rfl
@[simp] theorem setZero_mxc (j : ZeroJob) : (setZero j s).mxc = s.mxc := rfl
@[simp] theorem setZero_msu (j : ZeroJob) : (setZero j s).msu = s.msu := rfl
@[simp] theorem setZero_hvc (j : ZeroJob) : (setZero j s).hvc = s.hvc := rfl
@[simp] theorem setZero_nst (j : ZeroJob) : (setZero j s).nst = s.nst := rfl
@[simp] theorem setZero_gsu (j : ZeroJob) : (setZero j s).gsu = s.gsu := rfl
@[simp] theorem setZero_rnc (j : ZeroJob) : (setZero j s).rnc = s.rnc := rfl
@[simp] theorem setZero_cte (j : ZeroJob) : (setZero j s).cte = .zero j := rfl
@[simp] theorem setZero_ise (j : ZeroJob) : (setZero j s).ise = s.ise := rfl
@[simp] theorem setZero_wte (j : ZeroJob) : (setZero j s).wte = s.wte := rfl
@[simp] theorem setZero_todo (j : ZeroJob) : (setZero j s).todo = s.todo := rfl
@[simp] theorem setZero_dlg (j : ZeroJob) : (setZero j s).dlg = s.dlg := rfl
@[simp] theorem setZero_pre (j : ZeroJob) : (setZero j s).pre = s.pre := rfl
@[simp] theorem setZero_flk (j : ZeroJob) : (setZero j s).flk = s.flk := rfl
@[simp] theorem setZero_probe (j : ZeroJob) : (setZero j s).probe = s.probe := rfl
@[simp] theorem setZero_resetting (j : ZeroJob) : (setZero j s).resetting = s.resetting := rfl
@[simp] theorem setZero_free (j : ZeroJob) : (setZero j s).free = s.free := rfl

@[simp] theorem setLearn_pending (j : LearnJob) : (setLearn j s).pending = s.pending := rfl
@[simp] theorem setLearn_mxc (j : LearnJob) : (setLearn j s).mxc = s.mxc := rfl
@[simp] theorem setLearn_msu (j : LearnJob) : (setLearn j s).msu = s.msu := rfl
@[simp] theorem setLearn_hvc (j : LearnJob) : (setLearn j s).hvc = s.hvc := rfl
@[simp] theorem setLearn_nst (j : LearnJob) : (setLearn j s).nst = s.nst := rfl
@[simp] theorem setLearn_gsu (j : LearnJob) : (setLearn j s).gsu = s.gsu := rfl
@[simp] theorem setLearn_rnc (j : LearnJob) : (setLearn j s).rnc = s.rnc := rfl
@[simp] theorem setLearn_cte (j : LearnJob) : (setLearn j s).cte = .learn j := rfl
@[simp] theorem setLearn_ise (j : LearnJob) : (setLearn j s).ise = s.ise := rfl
@[simp] theorem setLearn_wte (j : LearnJob) : (setLearn j s).wte = s.wte := rfl
@[simp] theorem setLearn_todo (j : LearnJob) : (setLearn j s).todo = s.todo := rfl
@[simp] theorem setLearn_dlg (j : LearnJob) : (setLearn j s).dlg = s.dlg := rfl
@[simp] theorem setLearn_pre (j : LearnJob) : (setLearn j s).pre = s.pre := rfl
@[simp] theorem setLearn_flk (j : LearnJob) : (setLearn j s).flk = s.flk := rfl
@[simp] theorem setLearn_probe (j : LearnJob) : (setLearn j s).probe = s.probe := rfl
@[simp] theorem setLearn_resetting (j : LearnJob) : (setLearn j s).resetting = s.resetting := rfl
@[simp] theorem setLearn_free (j : LearnJob) : (setLearn j s).free = s.free := rfl

@[simp] theorem setIse_pending (j : InsulJob) : (setIse j s).pending = s.pending := rfl
@[simp] theorem setIse_mxc (j : InsulJob) : (setIse j s).mxc = s.mxc := rfl
@[simp] theorem setIse_msu (j : InsulJob) : (setIse j s).msu = s.msu := rfl
@[simp] theorem setIse_hvc (j : InsulJob) : (setIse j s).hvc = s.hvc := rfl
@[simp] theorem setIse_nst (j : InsulJob) : (setIse j s).nst = s.nst := rfl
@[simp] theorem setIse_gsu (j : InsulJob) : (setIse j s).gsu = s.gsu := rfl
@[simp] theorem setIse_rnc (j : InsulJob) : (setIse j s).rnc = s.rnc := rfl
@[simp] theorem setIse_cte (j : InsulJob) : (setIse j s).cte = s.cte := rfl
@[simp] theorem setIse_ise (j : InsulJob) : (setIse j s).ise = some j := rfl
@[simp] theorem setIse_wte (j : InsulJob) : (setIse j s).wte = s.wte := rfl
@[simp] theorem setIse_todo (j : InsulJob) : (setIse j s).todo = s.todo := rfl
@[simp] theorem setIse_dlg (j : InsulJob) : (setIse j s).dlg = s.dlg := rfl
@[simp] theorem setIse_pre (j : InsulJob) : (setIse j s).pre = s.pre := rfl
@[simp] theorem setIse_flk (j : InsulJob) : (setIse j s).flk = s.flk := rfl
@[simp] theorem setIse_probe (j : InsulJob) : (setIse j s).probe = s.probe := rfl
@[simp] theorem setIse_resetting (j : InsulJob) : (setIse j s).resetting = s.resetting := rfl
@[simp] theorem setIse_free (j : InsulJob) : (setIse j s).free = s.free := rfl

@[simp] theorem setWte_pending (j : WatchJob) : (setWte j s).pending = s.pending := rfl
@[simp] theorem setWte_mxc (j : WatchJob) : (setWte j s).mxc = s.mxc := rfl
@[simp] theorem setWte_msu (j : WatchJob) : (setWte j s).msu = s.msu := rfl
@[simp] theorem setWte_hvc (j : WatchJob) : (setWte j s).hvc = s.hvc := rfl
@[simp] theorem setWte_nst (j : WatchJob) : (setWte j s).nst = s.nst := rfl
@[simp] theorem setWte_gsu (j : WatchJob) : (setWte j s).gsu = s.gsu := rfl
@[simp] theorem setWte_rnc (j : WatchJob) : (setWte j s).rnc = s.rnc := rfl
@[simp] theorem setWte_cte (j : WatchJob) : (setWte j s).cte = s.cte := rfl
@[simp] theorem setWte_ise (j : WatchJob) : (setWte j s).ise = s.ise := rfl
@[simp] theorem setWte_wte (j : WatchJob) : (setWte j s).wte = some j := rfl
@[simp] theorem setWte_todo (j : WatchJob) : (setWte j s).todo = s.todo := rfl
@[simp] theorem setWte_dlg (j : WatchJob) : (setWte j s).dlg = s.dlg := rfl
@[simp] theorem setWte_pre (j : WatchJob) : (setWte j s).pre = s.pre := rfl
@[simp] theorem setWte_flk (j : WatchJob) : (setWte j s).flk = s.flk := rfl
@[simp] theorem setWte_probe (j : WatchJob) : (setWte j s).probe = s.probe := rfl
@[simp] theorem setWte_resetting (j : WatchJob) : (setWte j s).resetting = s.resetting := rfl
@[simp] theorem setWte_free (j : WatchJob) : (setWte j s).free = s.free := rfl

@[simp] theorem setBatch_pending (b : Batch) : (setBatch b s).pending = s.pending := rfl
@[simp] theorem setBatch_mxc (b : Batch) : (setBatch b s).mxc = { s.mxc with batch := some b } := rfl
@[simp] theorem setBatch_msu (b : Batch) : (setBatch b s).msu = s.msu := rfl
@[simp] theorem setBatch_hvc (b : Batch) : (setBatch b s).hvc = s.hvc := rfl
@[simp] theorem setBatch_nst (b : Batch) : (setBatch b s).nst = s.nst := rfl
@[simp] theorem setBatch_gsu (b : Batch) : (setBatch b s).gsu = s.gsu := rfl
@[simp] theorem setBatch_rnc (b : Batch) : (setBatch b s).rnc = s.rnc := rfl
@[simp] theorem setBatch_cte (b : Batch) : (setBatch b s).cte = s.cte := rfl
@[simp] theorem setBatch_ise (b : Batch) : (setBatch b s).ise = s.ise := rfl
@[simp] theorem setBatch_wte (b : Batch) : (setBatch b s).wte = s.wte := rfl
@[simp] theorem setBatch_todo (b : Batch) : (setBatch b s).todo = s.todo := rfl
@[simp] theorem setBatch_dlg (b : Batch) : (setBatch b s).dlg = s.dlg := rfl
@[simp] theorem setBatch_pre (b : Batch) : (setBatch b s).pre = s.pre := rfl
@[simp] theorem setBatch_flk (b : Batch) : (setBatch b s).flk = s.flk := rfl
@[simp] theorem setBatch_probe (b : Batch) : (setBatch b s).probe = s.probe := rfl
@[simp] theorem setBatch_resetting (b : Batch) : (setBatch b s).resetting = s.resetting := rfl
@[simp] theorem setBatch_free (b : Batch) : (setBatch b s).free = s.free := rfl

@[simp] theorem requestBatch_pending (who : Requester) (run : Bool) (a b : List Nat) : (requestBatch who run a b s).pending = s.pending := rfl
@[simp] theorem requestBatch_mxc (who : Requester) (run : Bool) (a b : List Nat) : (requestBatch who run a b s).mxc = { s.mxc with held := s.mxc.held ++ [{ a := a, b := b, run := run, who := who }] } := rfl
@[simp] theorem requestBatch_msu (who : Requester) (run : Bool) (a b : List Nat) : (requestBatch who run a b s).msu = s.msu := rfl
@[simp] theorem requestBatch_hvc (who : Requester) (run : Bool) (a b : List Nat) : (requestBatch who run a b s).hvc = s.hvc := rfl
@[simp] theorem requestBatch_nst (who : Requester) (run : Bool) (a b : List Nat) : (requestBatch who run a b s).nst = s.nst := rfl
@[simp] theorem requestBatch_gsu (who : Requester) (run : Bool) (a b : List Nat) : (requestBatch who run a b s).gsu = s.gsu := rfl
@[simp] theorem requestBatch_rnc (who : Requester) (run : Bool) (a b : List Nat) : (requestBatch who run a b s).rnc = s.rnc := rfl
@[simp] theorem requestBatch_cte (who : Requester) (run : Bool) (a b : List Nat) : (requestBatch who run a b s).cte = s.cte := rfl
@[simp] theorem requestBatch_ise (who : Requester) (run : Bool) (a b : List Nat) : (requestBatch who run a b s).ise = s.ise := rfl
@[simp] theorem requestBatch_wte (who : Requester) (run : Bool) (a b : List Nat) : (requestBatch who run a b s).wte = s.wte := rfl
@[simp] theorem requestBatch_todo (who : Requester) (run : Bool) (a b : List Nat) : (requestBatch who run a b s).todo = s.todo := rfl
@[simp] theorem requestBatch_dlg (who : Requester) (run : Bool) (a b : List Nat) : (requestBatch who run a b s).dlg = s.dlg := rfl
@[simp] theorem requestBatch_pre (who : Requester) (run : Bool) (a b : List Nat) : (requestBatch who run a b s).pre = s.pre := rfl
@[simp] theorem requestBatch_flk (who : Requester) (run : Bool) (a b : List Nat) : (requestBatch who run a b s).flk = s.flk := rfl
@[simp] theorem requestBatch_probe (who : Requester) (run : Bool) (a b : List Nat) : (requestBatch who run a b s).probe = s.probe := rfl
@[simp] theorem requestBatch_resetting (who : Requester) (run : Bool) (a b : List Nat) : (requestBatch who run a b s).resetting = s.resetting := rfl
@[simp] theorem requestBatch_free (who : Requester) (run : Bool) (a b : List Nat) : (requestBatch who run a b s).free = s.free := rfl

@[simp] theorem requestWindow_pending (w : WinReq) : (requestWindow w s).pending = s.pending := rfl
@[simp] theorem requestWindow_mxc (w : WinReq) : (requestWindow w s).mxc = s.mxc := rfl
@[simp] theorem requestWindow_msu (w : WinReq) : (requestWindow w s).msu = { s.msu with waiting := s.msu.waiting ++ [w] } := rfl
@[simp] theorem requestWindow_hvc (w : WinReq) : (requestWindow w s).hvc = s.hvc := rfl
@[simp] theorem requestWindow_nst (w : WinReq) : (requestWindow w s).nst = s.nst := rfl
@[simp] theorem requestWindow_gsu (w : WinReq) : (requestWindow w s).gsu = s.gsu := rfl
@[simp] theorem requestWindow_rnc (w : WinReq) : (requestWindow w s).rnc = s.rnc := rfl
@[simp] theorem requestWindow_cte (w : WinReq) : (requestWindow w s).cte = s.cte := rfl
@[simp] theorem requestWindow_ise (w : WinReq) : (requestWindow w s).ise = s.ise := rfl
@[simp] theorem requestWindow_wte (w : WinReq) : (requestWindow w s).wte = s.wte := rfl
@[simp] theorem requestWindow_todo (w : WinReq) : (requestWindow w s).todo = s.todo := rfl
@[simp] theorem requestWindow_dlg (w : WinReq) : (requestWindow w s).dlg = s.dlg := rfl
@[simp] theorem requestWindow_pre (w : WinReq) : (requestWindow w s).pre = s.pre := rfl
@[simp] theorem requestWindow_flk (w : WinReq) : (requestWindow w s).flk = s.flk := rfl
@[simp] theorem requestWindow_probe (w : WinReq) : (requestWindow w s).probe = s.probe := rfl
@[simp] theorem requestWindow_resetting (w : WinReq) : (requestWindow w s).resetting = s.resetting := rfl
@[simp] theorem requestWindow_free (w : WinReq) : (requestWindow w s).free = s.free := rfl

@[simp] theorem setLamp_pending : (setLamp s).pending = s.pending := rfl
@[simp] theorem setLamp_mxc : (setLamp s).mxc = s.mxc := rfl
@[simp] theorem setLamp_msu : (setLamp s).msu = s.msu := rfl
@[simp] theorem setLamp_hvc : (setLamp s).hvc = { s.hvc with lamp := decide (Config.safeBus < s.hvc.bus) || s.hvc.sourceOn } := rfl
@[simp] theorem setLamp_nst : (setLamp s).nst = s.nst := rfl
@[simp] theorem setLamp_gsu : (setLamp s).gsu = s.gsu := rfl
@[simp] theorem setLamp_rnc : (setLamp s).rnc = s.rnc := rfl
@[simp] theorem setLamp_cte : (setLamp s).cte = s.cte := rfl
@[simp] theorem setLamp_ise : (setLamp s).ise = s.ise := rfl
@[simp] theorem setLamp_wte : (setLamp s).wte = s.wte := rfl
@[simp] theorem setLamp_todo : (setLamp s).todo = s.todo := rfl
@[simp] theorem setLamp_dlg : (setLamp s).dlg = s.dlg := rfl
@[simp] theorem setLamp_pre : (setLamp s).pre = s.pre := rfl
@[simp] theorem setLamp_flk : (setLamp s).flk = s.flk := rfl
@[simp] theorem setLamp_probe : (setLamp s).probe = s.probe := rfl
@[simp] theorem setLamp_resetting : (setLamp s).resetting = s.resetting := rfl
@[simp] theorem setLamp_free : (setLamp s).free = s.free := rfl

@[simp] theorem discard_pending : (discard s).pending = s.pending := rfl
@[simp] theorem discard_mxc : (discard s).mxc = s.mxc := rfl
@[simp] theorem discard_msu : (discard s).msu = s.msu := rfl
@[simp] theorem discard_hvc : (discard s).hvc = s.hvc := rfl
@[simp] theorem discard_nst : (discard s).nst = s.nst := rfl
@[simp] theorem discard_gsu : (discard s).gsu = s.gsu := rfl
@[simp] theorem discard_rnc : (discard s).rnc = s.rnc := rfl
@[simp] theorem discard_cte : (discard s).cte = s.cte := rfl
@[simp] theorem discard_ise : (discard s).ise = s.ise := rfl
@[simp] theorem discard_wte : (discard s).wte = s.wte := rfl
@[simp] theorem discard_todo : (discard s).todo = s.todo := rfl
@[simp] theorem discard_dlg : (discard s).dlg = s.dlg := rfl
@[simp] theorem discard_pre : (discard s).pre = s.pre := rfl
@[simp] theorem discard_flk : (discard s).flk = { s.flk with discards := min 65535 (s.flk.discards + 1) } := rfl
@[simp] theorem discard_probe : (discard s).probe = s.probe := rfl
@[simp] theorem discard_resetting : (discard s).resetting = s.resetting := rfl
@[simp] theorem discard_free : (discard s).free = s.free := rfl

@[simp] theorem State.taken_pending : (s.taken).pending = s.pending := rfl
@[simp] theorem State.taken_mxc : (s.taken).mxc = s.mxc := rfl
@[simp] theorem State.taken_msu : (s.taken).msu = s.msu := rfl
@[simp] theorem State.taken_hvc : (s.taken).hvc = { s.hvc with linkExpired := if s.flk.expired then false else s.hvc.linkExpired } := rfl
@[simp] theorem State.taken_nst : (s.taken).nst = s.nst := rfl
@[simp] theorem State.taken_gsu : (s.taken).gsu = s.gsu := rfl
@[simp] theorem State.taken_rnc : (s.taken).rnc = s.rnc := rfl
@[simp] theorem State.taken_cte : (s.taken).cte = s.cte := rfl
@[simp] theorem State.taken_ise : (s.taken).ise = s.ise := rfl
@[simp] theorem State.taken_wte : (s.taken).wte = s.wte := rfl
@[simp] theorem State.taken_todo : (s.taken).todo = s.todo := rfl
@[simp] theorem State.taken_dlg : (s.taken).dlg = s.dlg := rfl
@[simp] theorem State.taken_pre : (s.taken).pre = s.pre := rfl
@[simp] theorem State.taken_flk : (s.taken).flk = { s.flk with busy := true, wdRunning := s.flk.wdPeriod != 0, expired := false, ranOut := false } := rfl
@[simp] theorem State.taken_probe : (s.taken).probe = s.probe := rfl
@[simp] theorem State.taken_resetting : (s.taken).resetting = s.resetting := rfl
@[simp] theorem State.taken_free : (s.taken).free = s.free := rfl

@[simp] theorem State.replied_pending (f : Frame) : (s.replied f).pending = s.pending := rfl
@[simp] theorem State.replied_mxc (f : Frame) : (s.replied f).mxc = s.mxc := rfl
@[simp] theorem State.replied_msu (f : Frame) : (s.replied f).msu = s.msu := rfl
@[simp] theorem State.replied_hvc (f : Frame) : (s.replied f).hvc = s.hvc := rfl
@[simp] theorem State.replied_nst (f : Frame) : (s.replied f).nst = s.nst := rfl
@[simp] theorem State.replied_gsu (f : Frame) : (s.replied f).gsu = s.gsu := rfl
@[simp] theorem State.replied_rnc (f : Frame) : (s.replied f).rnc = s.rnc := rfl
@[simp] theorem State.replied_cte (f : Frame) : (s.replied f).cte = s.cte := rfl
@[simp] theorem State.replied_ise (f : Frame) : (s.replied f).ise = s.ise := rfl
@[simp] theorem State.replied_wte (f : Frame) : (s.replied f).wte = s.wte := rfl
@[simp] theorem State.replied_todo (f : Frame) : (s.replied f).todo = s.todo := rfl
@[simp] theorem State.replied_dlg (f : Frame) : (s.replied f).dlg = s.dlg := rfl
@[simp] theorem State.replied_pre (f : Frame) : (s.replied f).pre = s.pre := rfl
@[simp] theorem State.replied_flk (f : Frame) : (s.replied f).flk = { s.flk with wire := some { frame := f, isReply := true, stream := false } } := rfl
@[simp] theorem State.replied_probe (f : Frame) : (s.replied f).probe = s.probe := rfl
@[simp] theorem State.replied_resetting (f : Frame) : (s.replied f).resetting = s.resetting := rfl
@[simp] theorem State.replied_free (f : Frame) : (s.replied f).free = s.free := rfl

/-! A notice changes nothing but the queue of notices. -/

@[simp] theorem raise_pending (k : NoticeKind) (p : List Byte) : (raise k p s).pending = s.pending := by unfold raise; split <;> rfl
@[simp] theorem raise_mxc (k : NoticeKind) (p : List Byte) : (raise k p s).mxc = s.mxc := by unfold raise; split <;> rfl
@[simp] theorem raise_msu (k : NoticeKind) (p : List Byte) : (raise k p s).msu = s.msu := by unfold raise; split <;> rfl
@[simp] theorem raise_hvc (k : NoticeKind) (p : List Byte) : (raise k p s).hvc = s.hvc := by unfold raise; split <;> rfl
@[simp] theorem raise_nst (k : NoticeKind) (p : List Byte) : (raise k p s).nst = s.nst := by unfold raise; split <;> rfl
@[simp] theorem raise_gsu (k : NoticeKind) (p : List Byte) : (raise k p s).gsu = s.gsu := by unfold raise; split <;> rfl
@[simp] theorem raise_rnc (k : NoticeKind) (p : List Byte) : (raise k p s).rnc = s.rnc := by unfold raise; split <;> rfl
@[simp] theorem raise_cte (k : NoticeKind) (p : List Byte) : (raise k p s).cte = s.cte := by unfold raise; split <;> rfl
@[simp] theorem raise_ise (k : NoticeKind) (p : List Byte) : (raise k p s).ise = s.ise := by unfold raise; split <;> rfl
@[simp] theorem raise_wte (k : NoticeKind) (p : List Byte) : (raise k p s).wte = s.wte := by unfold raise; split <;> rfl
@[simp] theorem raise_todo (k : NoticeKind) (p : List Byte) : (raise k p s).todo = s.todo := by unfold raise; split <;> rfl
@[simp] theorem raise_dlg (k : NoticeKind) (p : List Byte) : (raise k p s).dlg = s.dlg := by unfold raise; split <;> rfl
@[simp] theorem raise_pre (k : NoticeKind) (p : List Byte) : (raise k p s).pre = s.pre := by unfold raise; split <;> rfl
@[simp] theorem raise_probe (k : NoticeKind) (p : List Byte) : (raise k p s).probe = s.probe := by unfold raise; split <;> rfl
@[simp] theorem raise_resetting (k : NoticeKind) (p : List Byte) : (raise k p s).resetting = s.resetting := by unfold raise; split <;> rfl
@[simp] theorem raise_free (k : NoticeKind) (p : List Byte) : (raise k p s).free = s.free := by unfold raise; split <;> rfl

@[simp] theorem raiseRun_pending : (raiseRun s).pending = s.pending := raise_pending _ _ _
@[simp] theorem raiseRun_mxc : (raiseRun s).mxc = s.mxc := raise_mxc _ _ _
@[simp] theorem raiseRun_msu : (raiseRun s).msu = s.msu := raise_msu _ _ _
@[simp] theorem raiseRun_hvc : (raiseRun s).hvc = s.hvc := raise_hvc _ _ _
@[simp] theorem raiseRun_nst : (raiseRun s).nst = s.nst := raise_nst _ _ _
@[simp] theorem raiseRun_gsu : (raiseRun s).gsu = s.gsu := raise_gsu _ _ _
@[simp] theorem raiseRun_rnc : (raiseRun s).rnc = s.rnc := raise_rnc _ _ _
@[simp] theorem raiseRun_cte : (raiseRun s).cte = s.cte := raise_cte _ _ _
@[simp] theorem raiseRun_ise : (raiseRun s).ise = s.ise := raise_ise _ _ _
@[simp] theorem raiseRun_wte : (raiseRun s).wte = s.wte := raise_wte _ _ _
@[simp] theorem raiseRun_todo : (raiseRun s).todo = s.todo := raise_todo _ _ _
@[simp] theorem raiseRun_dlg : (raiseRun s).dlg = s.dlg := raise_dlg _ _ _
@[simp] theorem raiseRun_pre : (raiseRun s).pre = s.pre := raise_pre _ _ _
@[simp] theorem raiseRun_probe : (raiseRun s).probe = s.probe := raise_probe _ _ _
@[simp] theorem raiseRun_resetting : (raiseRun s).resetting = s.resetting := raise_resetting _ _ _
@[simp] theorem raiseRun_free : (raiseRun s).free = s.free := raise_free _ _ _

@[simp] theorem raiseSafety_pending : (raiseSafety s).pending = s.pending := raise_pending _ _ _
@[simp] theorem raiseSafety_mxc : (raiseSafety s).mxc = s.mxc := raise_mxc _ _ _
@[simp] theorem raiseSafety_msu : (raiseSafety s).msu = s.msu := raise_msu _ _ _
@[simp] theorem raiseSafety_hvc : (raiseSafety s).hvc = s.hvc := raise_hvc _ _ _
@[simp] theorem raiseSafety_nst : (raiseSafety s).nst = s.nst := raise_nst _ _ _
@[simp] theorem raiseSafety_gsu : (raiseSafety s).gsu = s.gsu := raise_gsu _ _ _
@[simp] theorem raiseSafety_rnc : (raiseSafety s).rnc = s.rnc := raise_rnc _ _ _
@[simp] theorem raiseSafety_cte : (raiseSafety s).cte = s.cte := raise_cte _ _ _
@[simp] theorem raiseSafety_ise : (raiseSafety s).ise = s.ise := raise_ise _ _ _
@[simp] theorem raiseSafety_wte : (raiseSafety s).wte = s.wte := raise_wte _ _ _
@[simp] theorem raiseSafety_todo : (raiseSafety s).todo = s.todo := raise_todo _ _ _
@[simp] theorem raiseSafety_dlg : (raiseSafety s).dlg = s.dlg := raise_dlg _ _ _
@[simp] theorem raiseSafety_pre : (raiseSafety s).pre = s.pre := raise_pre _ _ _
@[simp] theorem raiseSafety_probe : (raiseSafety s).probe = s.probe := raise_probe _ _ _
@[simp] theorem raiseSafety_resetting : (raiseSafety s).resetting = s.resetting := raise_resetting _ _ _
@[simp] theorem raiseSafety_free : (raiseSafety s).free = s.free := raise_free _ _ _

@[simp] theorem raisePrinter_pending : (raisePrinter s).pending = s.pending := raise_pending _ _ _
@[simp] theorem raisePrinter_mxc : (raisePrinter s).mxc = s.mxc := raise_mxc _ _ _
@[simp] theorem raisePrinter_msu : (raisePrinter s).msu = s.msu := raise_msu _ _ _
@[simp] theorem raisePrinter_hvc : (raisePrinter s).hvc = s.hvc := raise_hvc _ _ _
@[simp] theorem raisePrinter_nst : (raisePrinter s).nst = s.nst := raise_nst _ _ _
@[simp] theorem raisePrinter_gsu : (raisePrinter s).gsu = s.gsu := raise_gsu _ _ _
@[simp] theorem raisePrinter_rnc : (raisePrinter s).rnc = s.rnc := raise_rnc _ _ _
@[simp] theorem raisePrinter_cte : (raisePrinter s).cte = s.cte := raise_cte _ _ _
@[simp] theorem raisePrinter_ise : (raisePrinter s).ise = s.ise := raise_ise _ _ _
@[simp] theorem raisePrinter_wte : (raisePrinter s).wte = s.wte := raise_wte _ _ _
@[simp] theorem raisePrinter_todo : (raisePrinter s).todo = s.todo := raise_todo _ _ _
@[simp] theorem raisePrinter_dlg : (raisePrinter s).dlg = s.dlg := raise_dlg _ _ _
@[simp] theorem raisePrinter_pre : (raisePrinter s).pre = s.pre := raise_pre _ _ _
@[simp] theorem raisePrinter_probe : (raisePrinter s).probe = s.probe := raise_probe _ _ _
@[simp] theorem raisePrinter_resetting : (raisePrinter s).resetting = s.resetting := raise_resetting _ _ _
@[simp] theorem raisePrinter_free : (raisePrinter s).free = s.free := raise_free _ _ _

@[simp] theorem raiseCard_pending : (raiseCard s).pending = s.pending := raise_pending _ _ _
@[simp] theorem raiseCard_mxc : (raiseCard s).mxc = s.mxc := raise_mxc _ _ _
@[simp] theorem raiseCard_msu : (raiseCard s).msu = s.msu := raise_msu _ _ _
@[simp] theorem raiseCard_hvc : (raiseCard s).hvc = s.hvc := raise_hvc _ _ _
@[simp] theorem raiseCard_nst : (raiseCard s).nst = s.nst := raise_nst _ _ _
@[simp] theorem raiseCard_gsu : (raiseCard s).gsu = s.gsu := raise_gsu _ _ _
@[simp] theorem raiseCard_rnc : (raiseCard s).rnc = s.rnc := raise_rnc _ _ _
@[simp] theorem raiseCard_cte : (raiseCard s).cte = s.cte := raise_cte _ _ _
@[simp] theorem raiseCard_ise : (raiseCard s).ise = s.ise := raise_ise _ _ _
@[simp] theorem raiseCard_wte : (raiseCard s).wte = s.wte := raise_wte _ _ _
@[simp] theorem raiseCard_todo : (raiseCard s).todo = s.todo := raise_todo _ _ _
@[simp] theorem raiseCard_dlg : (raiseCard s).dlg = s.dlg := raise_dlg _ _ _
@[simp] theorem raiseCard_pre : (raiseCard s).pre = s.pre := raise_pre _ _ _
@[simp] theorem raiseCard_probe : (raiseCard s).probe = s.probe := raise_probe _ _ _
@[simp] theorem raiseCard_resetting : (raiseCard s).resetting = s.resetting := raise_resetting _ _ _
@[simp] theorem raiseCard_free : (raiseCard s).free = s.free := raise_free _ _ _

@[simp] theorem openAcknowledged_pending (p : Nat) (d : Side) : (openAcknowledged p d s).pending = s.pending := rfl
@[simp] theorem openAcknowledged_msu (p : Nat) (d : Side) : (openAcknowledged p d s).msu = s.msu := rfl
@[simp] theorem openAcknowledged_hvc (p : Nat) (d : Side) : (openAcknowledged p d s).hvc = s.hvc := rfl
@[simp] theorem openAcknowledged_nst (p : Nat) (d : Side) : (openAcknowledged p d s).nst = s.nst := rfl
@[simp] theorem openAcknowledged_gsu (p : Nat) (d : Side) : (openAcknowledged p d s).gsu = s.gsu := rfl
@[simp] theorem openAcknowledged_rnc (p : Nat) (d : Side) : (openAcknowledged p d s).rnc = s.rnc := rfl
@[simp] theorem openAcknowledged_cte (p : Nat) (d : Side) : (openAcknowledged p d s).cte = s.cte := rfl
@[simp] theorem openAcknowledged_ise (p : Nat) (d : Side) : (openAcknowledged p d s).ise = s.ise := rfl
@[simp] theorem openAcknowledged_wte (p : Nat) (d : Side) : (openAcknowledged p d s).wte = s.wte := rfl
@[simp] theorem openAcknowledged_todo (p : Nat) (d : Side) : (openAcknowledged p d s).todo = s.todo := rfl
@[simp] theorem openAcknowledged_dlg (p : Nat) (d : Side) : (openAcknowledged p d s).dlg = s.dlg := rfl
@[simp] theorem openAcknowledged_pre (p : Nat) (d : Side) : (openAcknowledged p d s).pre = s.pre := rfl
@[simp] theorem openAcknowledged_flk (p : Nat) (d : Side) : (openAcknowledged p d s).flk = s.flk := rfl
@[simp] theorem openAcknowledged_probe (p : Nat) (d : Side) : (openAcknowledged p d s).probe = s.probe := rfl
@[simp] theorem openAcknowledged_resetting (p : Nat) (d : Side) : (openAcknowledged p d s).resetting = s.resetting := rfl
@[simp] theorem openAcknowledged_free (p : Nat) (d : Side) : (openAcknowledged p d s).free = s.free := rfl
@[simp] theorem openAcknowledged_mxc (p : Nat) (d : Side) : (openAcknowledged p d s).mxc =
    { s.mxc with opens := s.mxc.opens.erase { point := p, side := d } } := rfl

end Sys2Proof.Machine
end

