-- ==== Sys2Proof/Laws/Command.lean ====
section
/-! SUPPORT. What follows a command's own effect: nothing but the transmitter in a calm state; a request answered at once in a quiet one. -/

namespace Sys2Proof.Machine

theorem pump_nil {s : State} (n : Nat) (h : s.todo = []) : pump n s = s := by
  cases n <;> simp [pump, h]

/-- With nothing to send, an IDLE print engine stays IDLE (R186). -/
theorem decidePrint_nothing {s : State} (hi : s.pre.state = .idle) (h : s.nothingToPrint) : decidePrint s = s := by
  rcases h with h | ⟨t, ts, h, hd, hk, he⟩
  · simp [decidePrint, h, setPre, hi]
  · rcases he with he | he
    · simp [decidePrint, h, hd, hk, he, setPre, hi]
    · cases hx : t.ended <;> simp [decidePrint, h, hd, hk, hx, he, setPre, hi]

theorem wakePrint_settled {s : State} (h : s.pre.state = .idle → s.nothingToPrint) : wakePrint s = s := by
  unfold wakePrint
  split
  · exact decidePrint_nothing ‹_› (h ‹_›)
  · rfl

/-- No strike is taken while there is none, or while the energisation goes on (R103). -/
theorem heldAtEnd_settled {s : State} (h : s.rnc.struck = true → s.hvc.energised = true) : heldAtEnd s = s := by
  unfold heldAtEnd
  cases hs : s.rnc.struck
  · rfl
  · simp [h hs]

theorem markStream_none {rs : List Rec} (h : ∀ r ∈ rs, r.host = true → r.inStream = true) : markStream rs = none := by
  induction rs with
  | nil => rfl
  | cons r rs ih =>
    have hr := h r (by simp)
    have hn : (r.host && !r.inStream) = false := by
      cases hh : r.host <;> simp_all
    simp [markStream, hn, ih fun x hx => h x (by simp [hx])]

theorem streamOne_settled {s : State}
    (h : s.dlg.streaming = false ∨ ∀ r ∈ s.dlg.recs, r.host = true → r.inStream = true) : streamOne s = s := by
  unfold streamOne
  rcases h with h | h
  · simp [h]
  · simp [markStream_none h]

theorem streamFill_settled {s : State}
    (h : s.dlg.streaming = false ∨ ∀ r ∈ s.dlg.recs, r.host = true → r.inStream = true) : streamFill s = s := by
  simp [streamFill, streamOne_settled h]

/-- The transmitter changes the frame link alone. -/
theorem transmit_flk (s : State) : ∃ f, transmit s = { s with flk := f } := by
  unfold transmit
  split
  · exact ⟨s.flk, rfl⟩
  · split
    · exact ⟨_, rfl⟩
    · split
      · exact ⟨s.flk, rfl⟩
      · split
        · exact ⟨s.flk, rfl⟩
        · exact ⟨_, rfl⟩

theorem service_idle {s : State} (h : s.flk.requests = [] ∨ s.flk.busy = true ∨ s.resetting.isSome = true) :
    service s = s := by
  unfold service
  rcases h with h | h | h <;> simp [h]

theorem takeAfterSettle_same {before s : State} (h : s.mxc.batch = none → before.mxc.batch = none) :
    takeAfterSettle before s = s := by
  unfold takeAfterSettle
  split
  · rename_i hc
    simp at hc
    rw [h hc.2] at hc; simp at hc
  · rfl

/-- After an effect that leaves a calm state, and that ends no batch, only the transmitter acts. -/
theorem finish_calm {before s : State} (hs : s.settled)
    (hq : s.flk.requests = [] ∨ s.flk.busy = true ∨ s.resetting.isSome = true)
    (hb : s.mxc.batch = none → before.mxc.batch = none) : finish before s = transmit s := by
  obtain ⟨h1, h2, h3, h4⟩ := hs
  unfold finish
  simp only [service_idle hq, pump_nil _ h1, takeAfterSettle_same hb, heldAtEnd_settled h4, wakePrint_settled h2,
    streamFill_settled h3]
  obtain ⟨f, hf⟩ := transmit_flk s
  exact streamFill_settled (by rw [hf]; exact h3)

theorem submit_ready {s : State} (r : Request) (h : s.flk.requests = []) :
    submit r s = reloadWatchdog { s with flk.requests := [r] } := by
  simp [submit, h, Config.requestPlaces]

/-- In a quiet state a request's own command takes the request and carries it out. -/
theorem request_quiet {s : State} (i : Instr) (h : s.quiet) :
    service (submit (.ok i) s) = carryOut i s.taken := by
  obtain ⟨⟨_, hr⟩, hb, _, _, hx⟩ := h
  rw [submit_ready _ hr]
  simp [service, reloadWatchdog, hb, hx, carryOutRequest, State.taken, hr]

/-- A request whose owner answers at once, in a quiet state: its effect, and the reply on the wire. -/
theorem request_answers {s : State} (i : Instr) (h : s.quiet) (f : Frame) (t : State)
    (ht : carryOut i s.taken = place f t) (hs : t.settled) (hf : t.flk.wire = none)
    (hn : t.flk.busy = true) (hb : t.mxc.batch = none → s.mxc.batch = none) :
    request i s = .next
      { t with flk := { t.flk with reply := none, wire := some { frame := f, isReply := true, stream := false } } } := by
  have hsub := request_quiet i h
  have hpl : (place f t).settled := hs
  have hfin : finish s (submit (.ok i) s) = transmit (place f t) := by
    have h1 := finish_calm (before := s) hpl (Or.inr (Or.inl (by simpa using hn))) (by simpa using hb)
    unfold finish at h1 ⊢
    rw [hsub, ht]
    rwa [service_idle (Or.inr (Or.inl (by simpa using hn)))] at h1
  unfold request command
  rw [hfin]
  simp [transmit, hf, place]

end Sys2Proof.Machine
end

