-- ==== Sys2Proof/Laws/Operations.lean ====
section
/-! SUPPORT. What each shared operation can do, said once; and that what every act of the engines keeps, a whole command's work keeps. -/

namespace Sys2Proof.Machine

/-! ### Notices -/

/-- Raising a notice changes the transmit queue alone (R199, R200). -/
theorem raise_spec (k : NoticeKind) (p : List Byte) (s : State) :
    ∃ q, raise k p s = { s with flk := { s.flk with notices := q } } := by
  unfold raise
  split
  · exact ⟨_, rfl⟩
  · exact ⟨s.flk.notices, rfl⟩

theorem Safety.add_has {r : Safety} {c : Cause} (h : r.has c = true) : r.add c = r := by
  cases r; cases c <;> simp_all [Safety.has, Safety.add]

/-- A cause latched is in the safety record, and nothing else has changed but the transmit queue (R152). -/
theorem latchCause_spec (c : Cause) (s : State) :
    ∃ q, latchCause c s =
      { s with hvc := { s.hvc with safety := s.hvc.safety.add c }, flk := { s.flk with notices := q } } := by
  unfold latchCause
  split
  · rename_i h
    exact ⟨s.flk.notices, by rw [Safety.add_has h]⟩
  · exact raise_spec _ _ _

theorem HoldSet.put_has {h : HoldSet} {r : HoldReason} (hr : h.has r = true) : h.put true r = h := by
  cases h; cases r <;> simp_all [HoldSet.has, HoldSet.put]

/-- A reason added is in the hold set, and nothing else has changed but the transmit queue (R98). -/
theorem addHold_spec (r : HoldReason) (s : State) :
    ∃ q, addHold r s =
      { s with rnc := { s.rnc with hold := s.rnc.hold.put true r }, flk := { s.flk with notices := q } } := by
  unfold addHold
  split
  · rename_i h
    exact ⟨s.flk.notices, by rw [HoldSet.put_has h]⟩
  · exact raise_spec _ _ _

/-! ### High voltage -/

/-- The source is off, DISCHARGE has begun and its timer runs; nothing outside the HVC has changed (R135). -/
theorem enterDischarge_spec (s : State) :
    enterDischarge s =
      { s with hvc := { s.hvc with
        state := .discharge
        setpoint := 0
        holding := false
        checking := false
        timer := true
        lamp := decide (Config.safeBus < s.hvc.bus) } } := by
  simp [enterDischarge, setLamp, Hvc.sourceOn]

/-- Removing high voltage is a discharge, and the end of the reading under way and of the ISE's open verdict (R146). -/
theorem removeHv_spec (s : State) :
    removeHv s = { enterDischarge s with
      msu := { s.msu with reading := false }
      ise := s.ise.map fun j => if j.verdict = .none then { j with removed := true } else j } := by
  simp [removeHv, enterDischarge, setLamp]

/-- What a disable request can answer (R137): safe or fault in OFF with nothing changed, else the requester waits. -/
theorem disable_spec (w : Waiter) (s : State) :
    (disable w s = (.safe, s) ∧ s.hvc.state = .off ∧ s.hvc.bus ≤ Config.safeBus) ∨
    (disable w s = (.fault, s) ∧ s.hvc.state = .off ∧ Config.safeBus < s.hvc.bus ∧ s.hvc.dischLatch = true) ∨
    (∃ t, disable w s = (.wait, t) ∧ t.hvc.state = .discharge ∧ t.hvc.waiters = s.hvc.waiters ++ [w] ∧
      t.mxc = s.mxc ∧ t.nst = s.nst ∧ t.gsu = s.gsu ∧ t.rnc = s.rnc ∧ t.cte = s.cte ∧ t.wte = s.wte ∧ t.todo = s.todo ∧
      t.dlg = s.dlg ∧ t.pre = s.pre ∧ t.flk = s.flk ∧ t.probe = s.probe ∧ t.resetting = s.resetting ∧
      t.pending = s.pending ∧ t.free = s.free) := by
  unfold disable
  cases hs : s.hvc.state
  · by_cases hb : s.hvc.bus ≤ Config.safeBus
    · exact Or.inl (by simp [hb])
    · by_cases hl : s.hvc.dischLatch = true
      · exact Or.inr (Or.inl (by simp [hb, hl, Nat.lt_of_not_le hb]))
      · exact Or.inr (Or.inr ⟨_, by simp only [hb, hl]; rfl, by simp [enterDischarge_spec]⟩)
  · exact Or.inr (Or.inr ⟨_, rfl, by simp [removeHv_spec, enterDischarge_spec]⟩)
  · exact Or.inr (Or.inr ⟨_, rfl, by simp [removeHv_spec, enterDischarge_spec]⟩)
  · exact Or.inr (Or.inr ⟨_, rfl, by simp [hs]⟩)

/-- The end of a struck energisation takes the strike, and makes a recordable run HELD while GUARD or LINK_LOST stands; else
nothing changes (R103). -/
theorem heldAtEnd_spec (s : State) :
    ((s.rnc.struck = false ∨ s.hvc.energised = true) ∧ heldAtEnd s = s) ∨
    (s.rnc.struck = true ∧ s.hvc.energised = false ∧
      ((s.recordable && (s.rnc.hold.guard || s.rnc.hold.linkLost)) = true ∧
          (∃ q, heldAtEnd s = { s with rnc := { s.rnc with struck := false, state := .held },
                                       flk := { s.flk with notices := q } }) ∨
        (s.recordable && (s.rnc.hold.guard || s.rnc.hold.linkLost)) = false ∧
          heldAtEnd s = { s with rnc := { s.rnc with struck := false } })) := by
  cases hs : s.rnc.struck
  · exact Or.inl ⟨Or.inl rfl, by simp [heldAtEnd, hs]⟩
  · cases he : s.hvc.energised
    · refine Or.inr ⟨rfl, rfl, ?_⟩
      cases hr : (s.recordable && (s.rnc.hold.guard || s.rnc.hold.linkLost))
      · exact Or.inr ⟨rfl, by
          have : heldAtEnd s = if s.recordable && (s.rnc.hold.guard || s.rnc.hold.linkLost) then
              enterHeld { s with rnc := { s.rnc with struck := false } }
            else { s with rnc := { s.rnc with struck := false } } := by
            simp [heldAtEnd, hs, he, State.recordable]
          rw [this, hr]; rfl⟩
      · refine Or.inl ⟨rfl, ?_⟩
        have : heldAtEnd s = if s.recordable && (s.rnc.hold.guard || s.rnc.hold.linkLost) then
            enterHeld { s with rnc := { s.rnc with struck := false } }
          else { s with rnc := { s.rnc with struck := false } } := by
          simp [heldAtEnd, hs, he, State.recordable]
        rw [this, hr]
        exact raise_spec _ _ _
    · exact Or.inl ⟨Or.inr rfl, by simp [heldAtEnd, he]⟩

/-- GUARD or LINK_LOST added is in the hold set; it strikes an energisation in flight, and nothing else has changed but the
transmit queue (R103). -/
theorem addStriking_spec (r : HoldReason) (s : State) :
    ∃ q, addStriking r s =
      { s with
        rnc := { s.rnc with
          hold := s.rnc.hold.put true r
          struck := s.rnc.struck || (!s.rnc.hold.has r && s.hvc.energised) }
        flk := { s.flk with notices := q } } := by
  obtain ⟨q, hq⟩ := addHold_spec r s
  refine ⟨q, ?_⟩
  unfold addStriking
  cases (!s.rnc.hold.has r && s.hvc.energised) <;> simp [hq]

/-! ### Cards -/

/-- What the loss of a PRESENT card leaves alone (R19): all but the card table, connections, quarantine and the commands
outstanding to it, and the frame link's queue and lost since set. -/
theorem cardGone_keeps (k : Nat) (s : State) :
    (cardGone k s).msu = s.msu ∧ (cardGone k s).hvc = s.hvc ∧ (cardGone k s).nst = s.nst ∧ (cardGone k s).gsu = s.gsu ∧
    (cardGone k s).rnc = s.rnc ∧ (cardGone k s).cte = s.cte ∧ (cardGone k s).ise = s.ise ∧ (cardGone k s).wte = s.wte ∧
    (cardGone k s).todo = s.todo ∧ (cardGone k s).dlg = s.dlg ∧ (cardGone k s).pre = s.pre ∧
    (cardGone k s).mxc.batch = s.mxc.batch ∧ (cardGone k s).mxc.held = s.mxc.held ∧ (cardGone k s).mxc.scan = s.mxc.scan ∧
    (cardGone k s).mxc.opens = s.mxc.opens.filter (fun c => !c.atSlot k) := by
  refine ⟨?_, ?_, ?_, ?_, ?_, ?_, ?_, ?_, ?_, ?_, ?_, ?_, ?_, ?_, ?_⟩ <;> dsimp only [cardGone] <;> split <;>
    simp [openCard, quarantineCard]

/-! ### The log -/

/-- A record enters the reserved slot, a free slot, or the entry place (R173). -/
theorem enterLog_spec (r : Rec) (s : State) :
    (s.dlg.reserved = true ∧
      enterLog r s = { s with dlg := { s.dlg with reserved := false, recs := s.dlg.recs ++ [r] } }) ∨
    (s.dlg.reserved = false ∧ s.dlg.entry = none ∧ 0 < s.dlg.freeSlots ∧
      enterLog r s = { s with dlg := { s.dlg with recs := s.dlg.recs ++ [r] } }) ∨
    (s.dlg.reserved = false ∧ (s.dlg.entry ≠ none ∨ s.dlg.freeSlots = 0) ∧
      enterLog r s = { s with dlg := { s.dlg with entry := some r, heldBack := s.engine } }) := by
  unfold enterLog
  cases hr : s.dlg.reserved
  · by_cases he : s.dlg.entry = none
    · by_cases hf : 0 < s.dlg.freeSlots
      · exact Or.inr (Or.inl (by simp [he, hf]))
      · exact Or.inr (Or.inr (by simp [Nat.eq_zero_of_not_pos hf]))
    · exact Or.inr (Or.inr (by simp [he]))
  · exact Or.inl (by simp)

/-! ### The stop of an engine, and the abort of its batches -/

/-- Stopping an engine leaves the matrix, the nets, the printer and the link alone, and the log but for the reservation: a
record in the entry place, and the engine it holds back, stay (R101, R173). -/
theorem stopEngine_keeps (s : State) :
    (stopEngine s).mxc = s.mxc ∧ (stopEngine s).nst = s.nst ∧ (stopEngine s).pre = s.pre ∧ (stopEngine s).flk = s.flk ∧
    (stopEngine s).dlg = { s.dlg with reserved := false } ∧ (stopEngine s).gsu = s.gsu ∧
    (stopEngine s).hvc.state = s.hvc.state ∧ (stopEngine s).hvc.bus = s.hvc.bus ∧ (stopEngine s).msu.cal = s.msu.cal ∧
    (stopEngine s).rnc = { s.rnc with unit := none, waits := false, struck := false } ∧ (stopEngine s).todo = [] ∧
    (stopEngine s).cte = .none ∧ (stopEngine s).ise = none ∧ (stopEngine s).wte = none := by
  unfold stopEngine releaseWindow withdraw
  refine ⟨?_, ?_, ?_, ?_, ?_, ?_, ?_, ?_, ?_, ?_, rfl, rfl, rfl, rfl⟩ <;> dsimp only <;> (repeat' split) <;> rfl

/-- Aborting the batches of a run moves no relay and changes no quarantine (R21). -/
theorem abortBatches_keeps (s : State) :
    (abortBatches s).mxc.conn = s.mxc.conn ∧ (abortBatches s).mxc.quar = s.mxc.quar ∧
    (abortBatches s).mxc.cards = s.mxc.cards ∧ (abortBatches s).mxc.held = s.mxc.held.filter (fun r => !r.run) ∧
    (abortBatches s).rnc = s.rnc ∧ (abortBatches s).msu = s.msu ∧ (abortBatches s).nst = s.nst ∧
    (abortBatches s).dlg = s.dlg ∧ (abortBatches s).flk = s.flk ∧ (abortBatches s).pre = s.pre ∧
    (abortBatches s).todo = s.todo ∧ (abortBatches s).hvc.state = s.hvc.state := by
  unfold abortBatches withdraw
  refine ⟨?_, ?_, ?_, ?_, ?_, ?_, ?_, ?_, ?_, ?_, ?_, ?_⟩ <;> dsimp only <;> (repeat' split) <;> rfl

/-! ### Whole commands -/

/-- What each record's creation keeps, the records of one event keep (R100). -/
theorem createRecords_keeps {P : State → Prop} (hrec : ∀ (d : Draft) (s : State), P s → P (createRecord d s))
    (ds : List Draft) (s : State) (h : P s) : P (createRecords ds s) := by
  induction ds generalizing s with
  | nil => exact h
  | cons d ds ih =>
    unfold createRecords
    split
    · exact h
    · exact ih _ (hrec d s h)

/-- What every act keeps, the engines' work keeps. -/
theorem pump_keeps {P : State → Prop}
    (hact : ∀ (a : Act) (rest : List Act) (s : State), s.todo = a :: rest → P s → P (runAct a { s with todo := rest }))
    (n : Nat) (s : State) (h : P s) : P (pump n s) := by
  induction n generalizing s with
  | zero => exact h
  | succ n ih =>
    unfold pump
    split
    · exact h
    · rename_i a rest ht
      split
      · exact h
      · exact ih _ (hact a rest s ht h)

/-- What every taken request keeps, the requests held behind a settled batch keep. -/
theorem takeHeld_keeps {P : State → Prop}
    (htake : ∀ (r : BatchReq) (rs : List BatchReq) (s : State), s.mxc.held = r :: rs → P s →
      P (takeBatch r { s with mxc := { s.mxc with held := rs } }))
    (n : Nat) (s : State) (h : P s) : P (takeHeld n s) := by
  induction n generalizing s with
  | zero => exact h
  | succ n ih =>
    unfold takeHeld
    split
    · exact h
    · split
      · exact h
      · rename_i r rs hr
        exact ih _ (htake r rs s hr h)

/-- What each part of a command's work keeps, the whole command keeps. -/
theorem finish_keeps {P : State → Prop} (before s : State) (h : P s)
    (hservice : ∀ s, P s → P (service s))
    (hact : ∀ (a : Act) (rest : List Act) (s : State), s.todo = a :: rest → P s → P (runAct a { s with todo := rest }))
    (htake : ∀ (r : BatchReq) (rs : List BatchReq) (s : State), s.mxc.held = r :: rs → P s →
      P (takeBatch r { s with mxc := { s.mxc with held := rs } }))
    (hheld : ∀ s, P s → P (heldAtEnd s)) (hwake : ∀ s, P s → P (wakePrint s)) (hstream : ∀ s, P s → P (streamOne s)) (htransmit : ∀ s, P s → P (transmit s)) :
    P (finish before s) := by
  have h3 : ∀ s, P s → P (streamFill s) := fun s h => hstream _ (hstream _ (hstream _ h))
  have h1 : P (pump Config.engineFuel (service s)) := pump_keeps hact _ _ (hservice _ h)
  have h2 : P (takeAfterSettle before (pump Config.engineFuel (service s))) := by
    unfold takeAfterSettle
    split
    · exact takeHeld_keeps htake _ _ h1
    · exact h1
  exact h3 _ (htransmit _ (h3 _ (hwake _ (hheld _ (pump_keeps hact _ _ h2)))))

/-- A command whose effect leaves a calm state and ends no batch: that effect, and the transmitter. -/
theorem command_calm {f : State → State} {s t : State} (ht : f s = t) (hs : t.settled) (hr : t.flk.requests = [])
    (hb : t.mxc.batch = none → s.mxc.batch = none) : command f s = .next (transmit t) := by
  unfold command
  rw [ht, finish_calm hs (Or.inl hr) hb]

end Sys2Proof.Machine
end

