-- ==== Sys2Proof/Laws/PerInstr.lean ====
section
/-! SUPPORT. For each command: a well-formed request has one of the 32 types unless it is UNKNOWN, which has none of them (R198). -/

namespace Sys2Proof.Laws.RequestType

open Sys2Proof

/-- The type of a well-formed request is from 0x01 to 0x20 exactly when it is not UNKNOWN; commands that are no request have
no type (R198). -/
def Statement (i : Instr) : Prop :=
  ∀ t p, i.wellFormed = true → encodeRequest i = some (t, p) → ((1 ≤ t.toNat ∧ t.toNat ≤ 32) ↔ ∀ u, i ≠ .unknown u)

/-- A request whose type is one of the 32. -/
theorem of_type {i : Instr} {t : Byte} {p : List Byte} (he : encodeRequest i = some (t, p))
    (h1 : 1 ≤ t.toNat) (h2 : t.toNat ≤ 32) (hi : ∀ u, i ≠ .unknown u) : Statement i := by
  intro t' p' _ he'
  rw [he] at he'
  cases he'
  exact ⟨fun _ => hi, fun _ => ⟨h1, h2⟩⟩

/-- A command that is no request. -/
theorem of_none {i : Instr} (he : encodeRequest i = none) : Statement i := by
  intro t p _ h
  rw [he] at h
  cases h

theorem powerOn (straps : BitVec 2) : Statement (.powerOn straps) := of_none rfl
theorem resetPin (straps : BitVec 2) : Statement (.resetPin straps) := of_none rfl
theorem resetAll : Statement (.resetAll) :=
  of_type rfl (by decide) (by decide) (fun _ h => by cases h)
theorem resetWork : Statement (.resetWork) :=
  of_type rfl (by decide) (by decide) (fun _ h => by cases h)
theorem identify : Statement (.identify) :=
  of_type rfl (by decide) (by decide) (fun _ h => by cases h)
theorem cards : Statement (.cards) :=
  of_type rfl (by decide) (by decide) (fun _ h => by cases h)
theorem pointWrite (point : Word16) (lead : Word16) (release : Byte) : Statement (.pointWrite point lead release) :=
  of_type rfl (by decide) (by decide) (fun _ h => by cases h)
theorem pointRead (point : Word16) : Statement (.pointRead point) :=
  of_type rfl (by decide) (by decide) (fun _ h => by cases h)
theorem netErase (all : Byte) (id : Word16) : Statement (.netErase all id) :=
  of_type rfl (by decide) (by decide) (fun _ h => by cases h)
theorem netWrite (id : Word16) (flag : Byte) (pts : List Word16) : Statement (.netWrite id flag pts) :=
  of_type rfl (by decide) (by decide) (fun _ h => by cases h)
theorem netRead (id : Word16) (piece : Byte) : Statement (.netRead id piece) :=
  of_type rfl (by decide) (by decide) (fun _ h => by cases h)
theorem netSum : Statement (.netSum) :=
  of_type rfl (by decide) (by decide) (fun _ h => by cases h)
theorem calWrite (range : Byte) (offset : Word16) (gain : Word16) : Statement (.calWrite range offset gain) :=
  of_type rfl (by decide) (by decide) (fun _ h => by cases h)
theorem calRead : Statement (.calRead) :=
  of_type rfl (by decide) (by decide) (fun _ h => by cases h)
theorem planErase : Statement (.planErase) :=
  of_type rfl (by decide) (by decide) (fun _ h => by cases h)
theorem planAdd (block : PlanBlock) : Statement (.planAdd block) :=
  of_type rfl (by decide) (by decide) (fun _ h => by cases h)
theorem planRead (index : Byte) : Statement (.planRead index) :=
  of_type rfl (by decide) (by decide) (fun _ h => by cases h)
theorem actionsWrite (acts : List Byte) (limit : Word16) : Statement (.actionsWrite acts limit) :=
  of_type rfl (by decide) (by decide) (fun _ h => by cases h)
theorem startPlan : Statement (.startPlan) :=
  of_type rfl (by decide) (by decide) (fun _ h => by cases h)
theorem startLearn (rlearn : Word32) : Statement (.startLearn rlearn) :=
  of_type rfl (by decide) (by decide) (fun _ h => by cases h)
theorem startZero (r : Word16) (lr : Word16) : Statement (.startZero r lr) :=
  of_type rfl (by decide) (by decide) (fun _ h => by cases h)
theorem pause : Statement (.pause) :=
  of_type rfl (by decide) (by decide) (fun _ h => by cases h)
theorem resume : Statement (.resume) :=
  of_type rfl (by decide) (by decide) (fun _ h => by cases h)
theorem abort : Statement (.abort) :=
  of_type rfl (by decide) (by decide) (fun _ h => by cases h)
theorem runRead : Statement (.runRead) :=
  of_type rfl (by decide) (by decide) (fun _ h => by cases h)
theorem probe (a : Word16) (b : Word16) (range : Byte) : Statement (.probe a b range) :=
  of_type rfl (by decide) (by decide) (fun _ h => by cases h)
theorem defectTake : Statement (.defectTake) :=
  of_type rfl (by decide) (by decide) (fun _ h => by cases h)
theorem streamSet (on : Byte) : Statement (.streamSet on) :=
  of_type rfl (by decide) (by decide) (fun _ h => by cases h)
theorem printSet (enable : Byte) (baud : Byte) (timeout : Byte) (title : List Byte) : Statement (.printSet enable baud timeout title) :=
  of_type rfl (by decide) (by decide) (fun _ h => by cases h)
theorem printCancel : Statement (.printCancel) :=
  of_type rfl (by decide) (by decide) (fun _ h => by cases h)
theorem hvRelease : Statement (.hvRelease) :=
  of_type rfl (by decide) (by decide) (fun _ h => by cases h)
theorem safetyRead : Statement (.safetyRead) :=
  of_type rfl (by decide) (by decide) (fun _ h => by cases h)
theorem noticeSet (mask : Byte) : Statement (.noticeSet mask) :=
  of_type rfl (by decide) (by decide) (fun _ h => by cases h)
theorem watchdogSet (seconds : Byte) : Statement (.watchdogSet seconds) :=
  of_type rfl (by decide) (by decide) (fun _ h => by cases h)
theorem unknown (type : Byte) : Statement (.unknown type) := by
  intro t p hw he
  obtain ⟨rfl, -⟩ : type = t ∧ [] = p := by simpa [encodeRequest] using he
  refine ⟨fun h => ?_, fun h => absurd rfl (h type)⟩
  simp only [Instr.wellFormed, Bool.or_eq_true, beq_iff_eq, decide_eq_true_eq] at hw
  rcases hw with rfl | hw
  · exact absurd h.1 (by decide)
  · omega
theorem receivedByte (b : Byte) : Statement (.receivedByte b) := of_none rfl
theorem interByteGapTimeout : Statement (.interByteGapTimeout) := of_none rfl
theorem frameSent : Statement (.frameSent) := of_none rfl
theorem linkWatchdogExpiry : Statement (.linkWatchdogExpiry) := of_none rfl
theorem scanDescriptor (d : Answer) (checkPassed : Bool) : Statement (.scanDescriptor d checkPassed) := of_none rfl
theorem scanProbeTimeout : Statement (.scanProbeTimeout) := of_none rfl
theorem batchRequest : Statement (.batchRequest) := of_none rfl
theorem cardAcknowledge (point : Nat) (side : Side) : Statement (.cardAcknowledge point side) := of_none rfl
theorem cardAckTimeout (slot : Nat) : Statement (.cardAckTimeout slot) := of_none rfl
theorem openPhaseWaitEnd : Statement (.openPhaseWaitEnd) := of_none rfl
theorem closePhaseWaitEnd : Statement (.closePhaseWaitEnd) := of_none rfl
theorem readbackReport (slot : Nat) (aCoils : BitVec 64) (bCoils : BitVec 64) : Statement (.readbackReport slot aCoils bCoils) := of_none rfl
theorem readbackTimeout (slot : Nat) : Statement (.readbackTimeout slot) := of_none rfl
theorem windowOpen : Statement (.windowOpen) := of_none rfl
theorem settleTimeEnd : Statement (.settleTimeEnd) := of_none rfl
theorem sample (raw : Word16) : Statement (.sample raw) := of_none rfl
theorem insulationReading (leak : Word16) (hvm : Word16) : Statement (.insulationReading leak hvm) := of_none rfl
theorem busMonitorReading (raw : Word16) : Statement (.busMonitorReading raw) := of_none rfl
theorem energisationEnable : Statement (.energisationEnable) := of_none rfl
theorem rampTick : Statement (.rampTick) := of_none rfl
theorem rampCheck : Statement (.rampCheck) := of_none rfl
theorem dwellTick : Statement (.dwellTick) := of_none rfl
theorem dwellTimeOut : Statement (.dwellTimeOut) := of_none rfl
theorem fastReading (nanoamps : Nat) : Statement (.fastReading nanoamps) := of_none rfl
theorem dischargeFault : Statement (.dischargeFault) := of_none rfl
theorem guardOpen : Statement (.guardOpen) := of_none rfl
theorem guardClose : Statement (.guardClose) := of_none rfl
theorem characterSent (busy : Bool) : Statement (.characterSent busy) := of_none rfl
theorem paperChange (present : Bool) (busy : Bool) : Statement (.paperChange present busy) := of_none rfl
theorem busyFall : Statement (.busyFall) := of_none rfl
theorem busyTimeout : Statement (.busyTimeout) := of_none rfl

end Sys2Proof.Laws.RequestType
end

