-- ==== Sys2Proof/Laws/Tables.lean ====
section
/-! SUPPORT. Sparse tables and sorted lists: a read after a write, and the canonical form every write keeps. -/

namespace Sys2Proof

variable {α : Type}

theorem SMap.get_erase_same (d : α) (k : Nat) (m : SMap α) : SMap.get d k (SMap.erase k m) = d := by
  induction m with
  | nil => rfl
  | cons e m ih =>
    obtain ⟨j, v⟩ := e
    by_cases h : j = k
    · subst h; simpa [SMap.erase] using ih
    · simp [SMap.erase, h, SMap.get]
      simpa [SMap.erase] using ih

theorem SMap.get_erase_other (d : α) {k l : Nat} (h : k ≠ l) (m : SMap α) :
    SMap.get d l (SMap.erase k m) = SMap.get d l m := by
  induction m with
  | nil => rfl
  | cons e m ih =>
    obtain ⟨j, v⟩ := e
    by_cases hj : j = k
    · subst hj; simp [SMap.erase, SMap.get, h]; simpa [SMap.erase] using ih
    · by_cases hl : j = l
      · subst hl; simp [SMap.erase, hj, SMap.get]
      · simp [SMap.erase, hj, SMap.get, hl]; simpa [SMap.erase] using ih

theorem SMap.get_insert_other (d v : α) {k l : Nat} (h : k ≠ l) (m : SMap α) :
    SMap.get d l (SMap.insert k v m) = SMap.get d l m := by
  induction m with
  | nil => simp [SMap.insert, SMap.get, h]
  | cons e m ih =>
    obtain ⟨j, w⟩ := e
    simp only [SMap.insert]
    split
    · simp [SMap.get, h]
    · simp only [SMap.get]; split
      · rfl
      · exact ih

theorem SMap.get_insert_same (d v : α) (k : Nat) (m : SMap α) (hm : ∀ e ∈ m, e.1 ≠ k) :
    SMap.get d k (SMap.insert k v m) = v := by
  induction m with
  | nil => simp [SMap.insert, SMap.get]
  | cons e m ih =>
    obtain ⟨j, w⟩ := e
    have hj : j ≠ k := hm (j, w) (by simp)
    have hm' : ∀ e ∈ m, e.1 ≠ k := fun e he => hm e (by simp [he])
    simp only [SMap.insert]
    split
    · simp [SMap.get]
    · simp [SMap.get, hj, ih hm']

theorem SMap.key_erase {k : Nat} {m : SMap α} {e : Nat × α} (h : e ∈ SMap.erase k m) : e ∈ m ∧ e.1 ≠ k := by
  simpa [SMap.erase] using h

/-- A read after a write: the value written at its key, every other key as before. -/
theorem SMap.get_set [DecidableEq α] (d v : α) (k l : Nat) (m : SMap α) :
    SMap.get d l (SMap.set d k v m) = if l = k then v else SMap.get d l m := by
  unfold SMap.set
  by_cases h : l = k
  · subst h
    split
    · simp [SMap.get_erase_same, *]
    · simp [SMap.get_insert_same d v l _ fun e he => (SMap.key_erase he).2]
  · have h' : k ≠ l := fun e => h e.symm
    split
    · rw [SMap.get_erase_other d h']
    · rw [SMap.get_insert_other d v h', SMap.get_erase_other d h']

/-- A read after several writes of one value. -/
theorem SMap.get_setAll [DecidableEq α] (d v : α) (ks : List Nat) (l : Nat) (m : SMap α) :
    SMap.get d l (SMap.setAll d ks v m) = if l ∈ ks then v else SMap.get d l m := by
  induction ks generalizing m with
  | nil => simp [SMap.setAll]
  | cons k ks ih =>
    have hstep : SMap.setAll d (k :: ks) v m = SMap.setAll d ks v (SMap.set d k v m) := rfl
    rw [hstep, ih, SMap.get_set]
    by_cases hk : l = k
    · subst hk; by_cases hl : l ∈ ks <;> simp [hl]
    · by_cases hl : l ∈ ks <;> simp [hl, hk]

theorem SMap.wf_erase [DecidableEq α] {d : α} {m : SMap α} (k : Nat) (h : SMap.wf d m) : SMap.wf d (SMap.erase k m) := by
  refine ⟨?_, fun e he => h.2 e (SMap.key_erase he).1⟩
  have hs : ((SMap.erase k m).map Prod.fst).Sublist (m.map Prod.fst) := by
    unfold SMap.erase; exact List.Sublist.map _ List.filter_sublist
  exact h.1.sublist hs

theorem SMap.mem_insert {k : Nat} {v : α} {m : SMap α} {e : Nat × α} (h : e ∈ SMap.insert k v m) : e = (k, v) ∨ e ∈ m := by
  induction m with
  | nil => simpa [SMap.insert] using h
  | cons x m ih =>
    obtain ⟨j, w⟩ := x
    simp only [SMap.insert] at h
    split at h
    · simpa using h
    · rcases List.mem_cons.mp h with h | h
      · exact Or.inr (by simp [h])
      · rcases ih h with h | h
        · exact Or.inl h
        · exact Or.inr (by simp [h])

theorem SMap.wf_insert [DecidableEq α] {d v : α} {k : Nat} {m : SMap α} (hv : v ≠ d) (hk : ∀ e ∈ m, e.1 ≠ k)
    (h : SMap.wf d m) : SMap.wf d (SMap.insert k v m) := by
  refine ⟨?_, fun e he => ?_⟩
  · induction m with
    | nil => simp [SMap.insert]
    | cons x m ih =>
      obtain ⟨j, w⟩ := x
      have hp := List.pairwise_cons.mp (by simpa using h.1 : (j :: m.map Prod.fst).Pairwise (· < ·))
      simp only [SMap.insert]
      split
      · rename_i hlt
        simp only [List.map_cons, List.pairwise_cons]
        refine ⟨fun y hy => ?_, hp.1, hp.2⟩
        rcases List.mem_cons.mp hy with rfl | hy
        · exact hlt
        · exact Nat.lt_trans hlt (hp.1 y hy)
      · rename_i hlt
        have hj : j ≠ k := hk (j, w) (by simp)
        simp only [List.map_cons, List.pairwise_cons]
        refine ⟨fun y hy => ?_, ih (fun e he => hk e (by simp [he])) ⟨hp.2, fun e he => h.2 e (by simp [he])⟩⟩
        obtain ⟨e, he, rfl⟩ := List.mem_map.mp hy
        rcases SMap.mem_insert he with rfl | he
        · omega
        · exact hp.1 _ (List.mem_map.mpr ⟨e, he, rfl⟩)
  · rcases SMap.mem_insert he with rfl | he
    · exact hv
    · exact h.2 e he

/-- Every write keeps the canonical form. -/
theorem SMap.wf_set [DecidableEq α] {d : α} {m : SMap α} (k : Nat) (v : α) (h : SMap.wf d m) :
    SMap.wf d (SMap.set d k v m) := by
  unfold SMap.set
  split
  · exact SMap.wf_erase k h
  · rename_i hv
    exact SMap.wf_insert hv (fun e he => (SMap.key_erase he).2) (SMap.wf_erase k h)

theorem SMap.wf_setAll [DecidableEq α] {d : α} (ks : List Nat) (v : α) {m : SMap α} (h : SMap.wf d m) :
    SMap.wf d (SMap.setAll d ks v m) := by
  induction ks generalizing m with
  | nil => exact h
  | cons k ks ih => exact ih (SMap.wf_set k v h)

namespace Machine

theorem mem_insertAsc (x y : Nat) (l : List Nat) : y ∈ insertAsc x l ↔ y = x ∨ y ∈ l := by
  induction l with
  | nil => simp [insertAsc]
  | cons z l ih =>
    simp only [insertAsc]
    split
    · simp
    · split
      · subst_vars; simp
      · simp only [List.mem_cons, ih]; tauto

/-- Insertion keeps a list strictly ascending. -/
theorem insertAsc_sorted {x : Nat} {l : List Nat} (h : l.Pairwise (· < ·)) : (insertAsc x l).Pairwise (· < ·) := by
  induction l with
  | nil => simp [insertAsc]
  | cons z l ih =>
    have hp := List.pairwise_cons.mp h
    simp only [insertAsc]
    split
    · rename_i hlt
      refine List.pairwise_cons.mpr ⟨fun y hy => ?_, h⟩
      rcases List.mem_cons.mp hy with rfl | hy
      · exact hlt
      · exact Nat.lt_trans hlt (hp.1 y hy)
    · split
      · exact h
      · rename_i h1 h2
        refine List.pairwise_cons.mpr ⟨fun y hy => ?_, ih hp.2⟩
        rcases (mem_insertAsc x y l).mp hy with rfl | hy
        · omega
        · exact hp.1 y hy

theorem foldl_insertAsc (xs l : List Nat) (h : l.Pairwise (· < ·)) :
    (xs.foldl (fun acc x => insertAsc x acc) l).Pairwise (· < ·) ∧
    ∀ y, y ∈ xs.foldl (fun acc x => insertAsc x acc) l ↔ y ∈ xs ∨ y ∈ l := by
  induction xs generalizing l with
  | nil => exact ⟨h, by simp⟩
  | cons x xs ih =>
    obtain ⟨h1, h2⟩ := ih (insertAsc x l) (insertAsc_sorted h)
    refine ⟨h1, fun y => ?_⟩
    simp only [List.foldl_cons, h2, mem_insertAsc, List.mem_cons]; tauto

/-- The numbers of a list, ascending, each once. -/
theorem sortAsc_spec (xs : List Nat) : (sortAsc xs).Pairwise (· < ·) ∧ ∀ y, y ∈ sortAsc xs ↔ y ∈ xs := by
  obtain ⟨h1, h2⟩ := foldl_insertAsc xs [] List.Pairwise.nil
  exact ⟨h1, fun y => (h2 y).trans (by simp)⟩

end Machine

end Sys2Proof
end

