-- ==== Sys2Proof/Tests/Slice0.lean ====
section
/-! SUPPORT. Small tests: terms that WellFormed refuses, worked values of the manual, and for each statement with hypotheses a state that meets them. -/

namespace Sys2Proof.Tests

open Sys2Proof.Machine

/-! ### WellFormed refuses -/

theorem test_netWrite_of_123_points : (Instr.netWrite 1#16 0#8 (List.replicate 123 0#16)).wellFormed = false := by
  simp [Instr.wellFormed]
theorem test_netWrite_of_122_points : (Instr.netWrite 1#16 0#8 (List.replicate 122 0#16)).wellFormed = true := by
  simp [Instr.wellFormed]

/-- A WATCH block of this many pairs. -/
def watchOf (n : Nat) : WatchBlock :=
  { mask := 64, range := 0, rgood := 0, ropen := 0, minBreak := 0, quiet := 0, maxTime := 0,
    pairs := List.replicate n (0, 1) }

theorem test_planAdd_of_58_pairs : (Instr.planAdd (.watch (watchOf 58))).wellFormed = false := by
  simp [Instr.wellFormed, PlanBlock.wellFormed, watchOf]

theorem test_planAdd_other_of_a_known_kind : (Instr.planAdd (.other 2#8 [])).wellFormed = false := by decide

theorem test_planAdd_other_too_long : (Instr.planAdd (.other 3#8 (List.replicate 249 0#8))).wellFormed = false := by
  rw [Instr.wellFormed, PlanBlock.wellFormed, List.length_replicate]; decide

theorem test_actionsWrite_of_ten : (Instr.actionsWrite (List.replicate 10 0#8) 0#16).wellFormed = false := by
  decide

theorem test_printSet_title_of_246 : (Instr.printSet 0#8 0#8 0#8 (List.replicate 246 65#8)).wellFormed = false := by
  rw [Instr.wellFormed, List.length_replicate]; decide

theorem test_unknown_of_a_known_type : (Instr.unknown 5#8).wellFormed = false := by decide
theorem test_cardAcknowledge_of_point_4096 : (Instr.cardAcknowledge 4096 .a).wellFormed = false := by decide
theorem test_cardAckTimeout_of_slot_64 : (Instr.cardAckTimeout 64).wellFormed = false := by decide
theorem test_readbackReport_of_slot_64 : (Instr.readbackReport 64 0#64 0#64).wellFormed = false := by decide
theorem test_readbackTimeout_of_slot_64 : (Instr.readbackTimeout 64).wellFormed = false := by decide

/-! ### Small states -/

/-- A card of type L, rated 100 V, operate 3 ms, release 16 ms (code 0). -/
def lowCard : Desc := { ctype := .low, rating := 100, operate := 3#4, release := 0#4 }

/-- A card of type H, rated 1500 V. -/
def highCard : Desc := { ctype := .high, rating := 1500, operate := 5#4, release := 7#4 }

/-- After reset, with two cards in slots 0 and 1. -/
def carded : State := { State.reset with mxc := { Mxc.reset with cards := [(0, .present lowCard), (1, .present highCard)] } }

/-- A PLAN run that is RUNNING, run number 7. -/
def running : State := { carded with rnc := { Rnc.reset with state := .running, kind := some .plan, runNo := 7 } }

/-- A run that is HELD by these reasons. -/
def heldBy (h : HoldSet) : State := { running with rnc := { running.rnc with state := .held, hold := h } }

/-- A run that is ENDING, with these points recorded on A and the teardown batch asked for. -/
def endingWith (closed : List Nat) : State :=
  { running with
    rnc := { running.rnc with state := .ending, verdict := .pass, reason := .completed }
    mxc := { running.mxc with
             conn := closed.map fun p => (p, .a)
             held := [{ a := [], b := [], run := false, who := .teardown }] } }

/-- An INSUL step of 500 V. -/
def insulPlan : InsulParams :=
  { first := 1, last := 1024, volts := 500, slew := 500, dwell := 1000, rmin := 100, n := 2, arcThr := 10, arcCount := 3,
    tripLevel := 20, tripDelay := 2, localise := true }

/-- An INSUL unit of net 1 with no verdict yet, on this leakage range. -/
def insulJob (r : LRange) : InsulJob :=
  { p := insulPlan, nets := [1], net := 1, cands := [64], anchor := 0, verdict := .none,
    meas := { value := 0, bound := .none, range := 0 }, unitMeas := { value := 0, bound := .none, range := 0 },
    leak := r, low := 0, discard := false, reported := [], stage := .unit, phase := .energising, removed := false,
    timedOut := false }

/-- The energisation of that step. -/
def energ500 : Energ :=
  { target := 500000, slew := 500, dwell := 1000, tripLevel := 20000000, arcThr := 10000000, tripDelay := 2, arcLimit := 3 }

/-- An energisation of a running run in this state of the HVC. -/
def energised (st : HvState) (r : LRange) : State :=
  { running with
    rnc := { running.rnc with unit := some .insulation }
    ise := some (insulJob r)
    hvc := { Hvc.reset with state := st, energ := energ500, energised := true, setpoint := 500000, lamp := true } }

/-- A batch in this phase with these commands outstanding and these cards to be read. -/
def batchIn (ph : BatchPhase) (cmds : List RelayCmd) (reads : List Nat) : Batch :=
  { req := { a := [0], b := [64], run := true, who := .cte }, adj := [(0, .a), (64, .b)], excl := [], faults := [],
    phase := ph, cmds := cmds, phaseAcked := [], acked := [0, 1], waitMs := 0, reads := reads, stuck := false,
    aborted := false }

/-- A running run with that batch in flight and these connections. -/
def batched (b : Batch) (conn : SMap Conn) : State := { running with mxc := { running.mxc with batch := some b, conn := conn } }

/-- A line with two characters yet to go out. -/
def line2 : Line := { rest := [65#8, 13#8], sent := 1, kind := .headerRun, slot := 0, baud := .b9600 }

/-- The print engine with that line, in this state. -/
def printing (st : PreState) (wire : Option Byte) (timer : Bool) : State :=
  { carded with pre := { Pre.reset with state := st, enable := true, line := some line2, onWire := wire, busyTimer := timer } }

/-- A record of run 7, host-marked, print-marked or not. -/
def rec7 (print : Bool) : Rec :=
  { run := 7, seq := 1, kind := .opn, step := 0, a := 3, netA := 1, b := some 5, netB := 1, value := some 12, bound := .none,
    second := none, range := some 0, time := 9, host := true, print := print, inStream := false, inPrint := false }

/-- That record in the log. -/
def logged (print : Bool) : State := { carded with dlg := { Dlg.reset with recs := [rec7 print] } }

/-! ### Worked values of the manual -/

/-- A table with one entry changed: the CR1 entry of the worked sample. -/
def cr1Table : CalTable := { CalTable.identity with cr1 := { offset := -12, gain := 655, uncal := false } }

/-- Section 2.4, the CR1 sample: raw 1875, leads 412 and 388, reads 29,312 milliohms. -/
theorem test_cr1_sample : resistance cr1Table .cr1 1875#16 412 388 = some 29312 := by decide

/-- The pipeline limits: 65534 on CR0 with offset 5; 8 reads 13; OVER. -/
theorem test_pipeline_limits :
    resistance { CalTable.identity with cr0 := { offset := 5, gain := 0, uncal := false } } .cr0 65534#16 300 200 = some 104356 ∧
    resistance .identity .cr0 8#16 0 0 = some 13 ∧ resistance .identity .cr0 7#16 0 0 = some 11 ∧
    resistance .identity .cr1 40#16 412 388 = some 0 ∧ resistance .identity .cr2 65535#16 0 0 = none := by decide

/-- Section 2.5: the IR1 reading and the three limit readings. -/
theorem test_insulation_readings :
    insulReading .identity .ir1 2571#16 40004#16 = (1000100, .value 3889926 .none (some 2571)) ∧
    insulReading .identity .ir0 65535#16 40000#16 = (1000000, .value 15259 .atMost none) ∧
    insulReading .identity .ir2 30#16 60000#16 = (1500000, .value 4294967295 .atLeast (some 30)) ∧
    insulReading .identity .ir2 0#16 40000#16 = (1000000, .value 4294967295 .atLeast (some 0)) := by decide

set_option maxRecDepth 20000 in
/-- Section 4.4: net 1 with the single member P0000 sums to 1, 1, 1 and CRC 0x3D04. -/
theorem test_net_sum :
    netSumPayload { State.reset with nst := { nets := [(1, [0])], leads := [] } } =
      [1#8, 0#8, 1#8, 0#8, 1#8, 0#8, 0x04#8, 0x3D#8] := by decide

/-- R189: fields of the examples column. -/
theorem test_value_fields :
    valueText { rec7 true with value := some 10485600, bound := .atLeast } = ascii ">10485.600 OHM" ∧
    valueText { rec7 true with kind := .lowIr, value := some 15259, bound := .atMost } = ascii "<15.2M" ∧
    valueText { rec7 true with kind := .trip, value := some 52000000 } = ascii "52.000UA" := by decide

/-- R195: the frame of PAUSE, C3 01 12 and the check byte that makes 01 + 12 + check a multiple of 256. -/
theorem test_pause_frame : ({ type := 0x12#8, payload := [] } : Frame).bytes = [0xC3#8, 0x01#8, 0x12#8, 0xED#8] := by decide

/-- R206: POINT-WRITE 0x03 of P0300 (2C 01), lead 412 (9C 01), release. -/
theorem test_pointWrite_payload :
    decodeRequest 0x03#8 [0x2C#8, 0x01#8, 0x9C#8, 0x01#8, 1#8] = .ok (.pointWrite 300#16 412#16 1#8) := by decide

/-- R206: CAL-WRITE of range 1, offset -12 (F4 FF), gain +655 (8F 02). -/
theorem test_calWrite_payload :
    decodeRequest 0x09#8 [1#8, 0xF4#8, 0xFF#8, 0x8F#8, 0x02#8] = .ok (.calWrite 1#8 (-12#16) 655#16) := by decide

/-- R198: a payload one byte too long. -/
theorem test_wrong_length : decodeRequest 0x15#8 [0#8] = .badLength 0x15#8 := by decide

/-- The table as the net-building example has it after its second request. -/
def netFive : State := { carded with nst := { nets := [(5, [2, 4, 10])], leads := [] } }

/-- Section 4.2, the net-building example: STATE, CONFLICT and ABSENT_POINT. -/
theorem test_net_building :
    netWriteRefusal 6 1#8 [20] netFive = some .state ∧ netWriteRefusal 6 0#8 [20, 10] netFive = some .conflict ∧
    netWriteRefusal 6 0#8 [20, 130] netFive = some .absentPoint ∧ netWriteRefusal 6 0#8 [20, 21] netFive = none ∧
    netAfter [] 0#8 [10, 4, 10] = [4, 10] ∧ netAfter [4, 10] 1#8 [2, 4] = [2, 4, 10] := by decide

/-! ### States in which nothing waits -/

theorem calm_of {s : State} (h1 : s.todo = []) (h2 : s.pre.state ≠ .idle ∨ s.pre.slots = [])
    (h3 : s.dlg.streaming = false) (h4 : s.rnc.struck = false) (h5 : s.flk.requests = []) : s.calm :=
  ⟨⟨h1, fun h => Or.inl (h2.resolve_left (fun n => n h)), Or.inl h3, fun h => absurd (h4.symm.trans h) (by decide)⟩, h5⟩

theorem quiet_of {s : State} (h : s.calm) (h5 : s.flk.busy = false) (h6 : s.flk.wire = none)
    (h7 : s.flk.reply = none) (h8 : s.resetting = none) : s.quiet := ⟨h, h5, h6, h7, h8⟩

theorem reset_quiet : State.reset.quiet := quiet_of (calm_of rfl (Or.inr rfl) rfl rfl rfl) rfl rfl rfl rfl
theorem carded_quiet : carded.quiet := quiet_of (calm_of rfl (Or.inr rfl) rfl rfl rfl) rfl rfl rfl rfl
theorem running_quiet : running.quiet := quiet_of (calm_of rfl (Or.inr rfl) rfl rfl rfl) rfl rfl rfl rfl
theorem held_quiet (h : HoldSet) : (heldBy h).quiet := quiet_of (calm_of rfl (Or.inr rfl) rfl rfl rfl) rfl rfl rfl rfl
theorem ending_quiet (ps : List Nat) : (endingWith ps).quiet := quiet_of (calm_of rfl (Or.inr rfl) rfl rfl rfl) rfl rfl rfl rfl
theorem energised_quiet (st : HvState) (r : LRange) : (energised st r).quiet :=
  quiet_of (calm_of rfl (Or.inr rfl) rfl rfl rfl) rfl rfl rfl rfl
theorem batched_quiet (b : Batch) (c : SMap Conn) : (batched b c).quiet :=
  quiet_of (calm_of rfl (Or.inr rfl) rfl rfl rfl) rfl rfl rfl rfl
theorem printing_quiet (st : PreState) (h : st ≠ .idle) (w : Option Byte) (b : Bool) : (printing st w b).quiet :=
  quiet_of (calm_of rfl (Or.inl h) rfl rfl rfl) rfl rfl rfl rfl
theorem logged_quiet (b : Bool) : (logged b).quiet := quiet_of (calm_of rfl (Or.inr rfl) rfl rfl rfl) rfl rfl rfl rfl

/-! ### For each statement with hypotheses, states and operands that meet them -/

theorem witness_StepTakesTheFrontCommand : State.reset.pending = [] := rfl
theorem witness_ReadRequestsAnswerAtOnce : State.reset.quiet := reset_quiet
theorem witness_CardsGivesAllSlotsInOrder : carded.quiet := carded_quiet
theorem witness_CalReadGivesSevenEntries : State.reset.quiet := reset_quiet
theorem witness_PointReadGivesThePoint : carded.quiet ∧ (4095#16).toNat < 4096 ∧ ¬(4096#16).toNat < 4096 :=
  ⟨carded_quiet, by decide, by decide⟩
theorem witness_PlanReadGivesTheStep : State.reset.quiet := reset_quiet
theorem witness_NetReadGivesOnePiece : netFive.quiet := quiet_of (calm_of rfl (Or.inr rfl) rfl rfl rfl) rfl rfl rfl rfl
theorem witness_PointWriteStoresLeadAndReleases : carded.quiet ∧ carded.active = false ∧ carded.present 127 = true :=
  ⟨carded_quiet, by decide, by decide⟩
theorem witness_NetEraseUndefinesNets : netFive.quiet ∧ netFive.active = false :=
  ⟨quiet_of (calm_of rfl (Or.inr rfl) rfl rfl rfl) rfl rfl rfl rfl, by decide⟩

/-- As many nets as the table holds, none of them net 1; no run of the part leaves the table so. -/
def netFull : State := { carded with nst := { nets := List.replicate 1024 (2, [4]), leads := [] } }

/-- The six checks of NET-WRITE, each reached: a run is active; net 0 and net 1025; APPEND to an undefined net; P0128 is
absent; P0010 is in net 5; no room. -/
theorem witness_NetWriteChecksInOrder :
    (running.quiet ∧ running.active = true) ∧
    (netFive.quiet ∧ netFive.active = false ∧ (0#16).toNat = 0 ∧ 1024 < (1025#16).toNat ∧ 4096 ≤ (4096#16).toNat) ∧
    netFive.members 6 = [] ∧ netFive.present 128 = false ∧ netFive.netOf 10 = 5 ∧
    (netFull.members 1 = [] ∧ 1024 ≤ netFull.nst.nets.length) := by
  refine ⟨⟨running_quiet, by decide⟩, ⟨quiet_of (calm_of rfl (Or.inr rfl) rfl rfl rfl) rfl rfl rfl rfl, by decide⟩, by decide, by decide,
    by decide, ?_, le_of_eq (List.length_replicate ..).symm⟩
  have h : ∀ n, SMap.get [] 1 (List.replicate n (2, [4])) = ([] : List Nat) := by
    intro n
    induction n with
    | zero => rfl
    | succ n ih => simp [List.replicate_succ, SMap.get, ih]
  exact h 1024

/-- NEW of net 1024 and APPEND to net 5, with P0127. -/
theorem witness_NetWriteBuildsTheNet :
    netFive.quiet ∧ netFive.active = false ∧
    (∀ p ∈ [127#16, 10#16], p.toNat < 4096 ∧ netFive.present p.toNat = true ∧
      (netFive.netOf p.toNat = 0 ∨ netFive.netOf p.toNat = 5)) ∧
    netFive.members 5 ≠ [] ∧ (netFive.members 1024 = [] ∧ netFive.nst.nets.length < 1024) ∧
    (netFive.members 5).Pairwise (· < ·) := by
  refine ⟨quiet_of (calm_of rfl (Or.inr rfl) rfl rfl rfl) rfl rfl rfl rfl, rfl, ?_, by decide, by decide, by decide⟩
  intro p hp
  simp only [List.mem_cons, List.not_mem_nil, or_false] at hp
  rcases hp with rfl | rfl
  · exact ⟨by decide, rfl, Or.inl rfl⟩
  · exact ⟨by decide, rfl, Or.inr rfl⟩

theorem witness_CalWriteStoresClampedEntry : State.reset.quiet ∧ State.reset.active = false := ⟨reset_quiet, by decide⟩

theorem witness_PlanIsErasedAndGrown :
    State.reset.quiet ∧ State.reset.active = false ∧ (storedStep (.other 3#8 [])).isNone = true :=
  ⟨reset_quiet, by decide⟩

/-- A CONT block that gives its net range alone. -/
def contBlank : ContBlock :=
  { mask := 3, first := 0, last := 0, range := 0, n := 0, rgood := 0, ropen := 0, shorts := 0, rshort := 0 }

/-- An INSUL block that gives its net range and voltage alone. -/
def insulBlank : InsulBlock :=
  { mask := 7, first := 0, last := 0, volts := 0, slew := 0, dwell := 0, rmin := 0, n := 0, arcThr := 0, arcCount := 0,
    tripLevel := 0, tripDelay := 0, localise := 0 }

/-- Steps with their required parameters alone; a CONT block whose net range is empty, a WATCH block of 17 pairs, and a range
code of 4. -/
theorem witness_StoredStepsLieInTheirRanges :
    (storedStep (.cont contBlank)).isSome = true ∧ (storedStep (.insul insulBlank)).isSome = true ∧
    (storedStep (.watch (watchOf 16))).isSome = true ∧ storedStep (.cont { contBlank with first := 2, last := 1 }) = none ∧
    storedStep (.cont { contBlank with mask := 7, range := 4 }) = none ∧ storedStep (.watch (watchOf 17)) = none := by decide

theorem witness_ActionsWriteStoresUnderRestrictions :
    (running.quiet ∧ running.active = true) ∧ carded.quiet ∧ carded.active = false ∧
    [0#8, 1#8, 2#8, 0#8, 0#8, 0#8, 0#8, 0#8, 0#8, 0#8, 0#8].length = 11 ∧
    (∀ c ∈ [0#8, 1#8, 2#8, 0#8, 0#8, 0#8, 0#8, 0#8, 0#8, 0#8, 0#8], c.toNat ≤ 2) ∧
    (∃ c ∈ [3#8, 1#8, 2#8, 0#8, 0#8, 0#8, 0#8, 0#8, 0#8, 0#8, 0#8], 2 < c.toNat) :=
  ⟨⟨running_quiet, by decide⟩, carded_quiet, by decide⟩

/-- A plan of one INSUL step, with net 5 testable. -/
def planned : State := { netFive with rnc := { Rnc.reset with plan := [.insul insulPlan] } }

/-- The same over the H card alone, so that 500 V is within the rating limit. -/
def plannedHigh : State :=
  { planned with mxc := { Mxc.reset with cards := [(0, .present highCard), (1, .present highCard)] } }

/-- A summary slot of run `n`. -/
def slotFor (number n : Nat) : Slot :=
  { number := number, runNo := n, kind := .plan, title := [], nets := 0, uncal := false, steps := [], header := true,
    ended := none, lastStep := none }

/-- Both summary slots occupied. -/
def backlogged : State :=
  { plannedHigh with pre := { Pre.reset with state := .noPaper, enable := true, slots := [slotFor 0 1, slotFor 1 2] } }

/-- The six checks of START-PLAN, each reached. -/
theorem witness_StartPlanChecksInOrder :
    (running.quiet ∧ running.active = true) ∧
    ({ carded with hvc := { Hvc.reset with dischLatch := true } } : State).quiet ∧
    (carded.quiet ∧ startRefusal .plan carded = some .noPlan) ∧
    startRefusal .plan { planned with nst := .reset } = some .noNets ∧
    (planned.quiet ∧ startRefusal .plan planned = some .rating) ∧
    (backlogged.quiet ∧ startRefusal .plan backlogged = some .printBacklog) :=
  ⟨⟨running_quiet, by decide⟩, quiet_of (calm_of rfl (Or.inr rfl) rfl rfl rfl) rfl rfl rfl rfl, ⟨carded_quiet, by decide⟩, by decide,
    ⟨quiet_of (calm_of rfl (Or.inr rfl) rfl rfl rfl) rfl rfl rfl rfl, by decide⟩,
    ⟨quiet_of (calm_of rfl (Or.inl (by decide)) rfl rfl rfl) rfl rfl rfl rfl, by decide⟩⟩

/-- The plan with this one step, net 5 and net 6, and printing enabled. -/
def plannedStep (st : PlanStep) : State :=
  { plannedHigh with
    rnc := { Rnc.reset with plan := [st] }
    nst := { nets := [(5, [2, 4, 10]), (6, [20, 21])], leads := [] }
    pre := { Pre.reset with state := .idle, enable := true } }

/-- A CONT step of all nets, its range AUTO, N of 2, with SHORTS. -/
def contPlan : ContParams :=
  { first := 1, last := 1024, range := .auto, n := 2, rgood := 5000, ropen := 100000, shorts := true, rshort := 10000000 }

/-- A WATCH step of P0000 with P0064 and P0001 with P0065, its breaks of one sample. -/
def watchPlan : WatchParams :=
  { range := .cr1, rgood := 5000, ropen := 100000, minBreak := 1, quiet := 30, maxTime := 300, pairs := [(0, 64), (1, 65)] }

/-- A first step of each kind whose first unit is tested. -/
theorem witness_StartPlanNumbersTheRun :
    (∀ st, (plannedStep st).quiet) ∧ (plannedStep (.watch watchPlan)).mxc.batch = none ∧
    startRefusal .plan (plannedStep (.watch watchPlan)) = none ∧ startRefusal .plan (plannedStep (.cont contPlan)) = none ∧
    startRefusal .plan (plannedStep (.insul insulPlan)) = none ∧ (plannedStep (.watch watchPlan)).usable 64 = true ∧
    (plannedStep (.cont contPlan)).testableIn 1 1024 = [5, 6] ∧ (plannedStep (.cont contPlan)).members 5 = [2, 4, 10] ∧
    (plannedStep (.insul insulPlan)).usable 2 = true ∧ (plannedStep (.insul insulPlan)).candidates 5 ≠ [] :=
  ⟨fun _ => quiet_of (calm_of rfl (Or.inr rfl) rfl rfl rfl) rfl rfl rfl rfl, rfl, by decide, by decide, by decide, by decide, by decide,
    by decide, by decide, List.ne_nil_of_mem (a := 64) (by decide)⟩

/-- A running run with an open sample window of this owner. -/
def sampled (o : Owner) (range : CRange) (la lb : Option Nat) : State :=
  { running with
    dlg := { Dlg.reset with reserved := true }
    nst := { nets := [(5, [2, 4, 10]), (6, [20, 21])], leads := [(2, 100)] }
    msu := { Msu.reset with contRange := range, window := some { owner := o, la := la, lb := lb, sampling := true } } }

/-- A search of P0000 against four points that measures its interval (lo, hi), the interval (2, 4) left. -/
def searched (c : Cte) (lo hi : Nat) : State :=
  { sampled .cte .cr2 (some 0) none with
    cte := c
    gsu := { state := .measuring, caller := .cte, driven := [0], cands := [1, 2, 64, 65], stack := [(2, 4)],
              cur := some (lo, hi), found := 0 } }

/-- A LEARN run of P0000, its group filter one CONDUCT or ISOLATED sample short of a result. -/
def learnJob (c : SampleClass) (net : Option Nat) : LearnJob :=
  { rlearn := 100000, nextId := 7, cursor := 0, net := net, reported := [],
    filter := { cls := some c, len := 1, count := 1 }, phase := .searching }

/-- A CONT step at net 5 in this stage, with this filter. -/
def contJob (st : ContStage) (f : Filter) : ContJob :=
  { p := contPlan, nets := [5, 6], net := 5, stage := st, nominal := 2, anchor := 2, cursor := 4, recOnly := false,
    reported := [], filter := f, phase := .measuring }

/-- The start; and samples that answer ISOLATED (OVER), and CONDUCT on two points and on one. -/
theorem witness_StartLearnEmptiesTheNets :
    (netFive.quiet ∧ netFive.mxc.batch = none ∧ startRefusal .learn netFive = none ∧ netFive.gsu.state = .idle) ∧
    (∀ c lo hi, (searched c lo hi).calm ∧ (searched c lo hi).unhindered ∧ (searched c lo hi).msu.waiting = []) ∧
    resistance .identity .cr2 65535#16 0 0 = none ∧ resistance .identity .cr2 10#16 0 0 = some 1600 ∧
    (learnJob .conduct none).filter.cls = some .conduct ∧ (learnJob .conduct none).filter.len + 1 = 2 ∧
    (searched .none 0 2).onlyLogged .short :=
  ⟨⟨quiet_of (calm_of rfl (Or.inr rfl) rfl rfl rfl) rfl rfl rfl rfl, by decide⟩,
    fun _ _ _ => ⟨calm_of rfl (Or.inr rfl) rfl rfl rfl, ⟨rfl, rfl, rfl, rfl, rfl, Nat.le_of_ble_eq_true rfl⟩, rfl⟩,
    by decide, by decide, rfl, rfl, rfl, by decide⟩

/-- A ZERO run at P0003 from P0000, with this many GOOD samples counted. -/
def zeroed (len : Nat) : State :=
  { sampled .cte .cr0 none none with
    cte := .zero { r := 0, lr := 50, cursor := 3, filter := { cls := some .good, len := len, count := len }, phase := .measuring } }

theorem witness_StartZeroSetsTheReferenceLead :
    (carded.quiet ∧ carded.mxc.batch = none ∧ startRefusal .zero carded = none ∧ (127#16).toNat < 4096 ∧
      carded.present 127 = true ∧ carded.quar 127 = .none ∧
      carded.presentPoints.find? (fun q => q != 127 && carded.quar q == .none) = some 0) ∧
    (let s : State := { carded with dlg := { Dlg.reset with
      recs := List.replicate 256 (rec7 true), entry := some (rec7 true), heldBack := some .cte } }
     s.quiet ∧ startRefusal .zero s = none) ∧
    (∀ n, (zeroed n).calm ∧ (zeroed n).unhindered) ∧ resistance .identity .cr0 100#16 0 0 = some 160 ∧
    (zeroed 3).presentPoints.find? (fun q => 3 + 1 ≤ q && q != 0 && (zeroed 3).quar q == .none) = some 4 :=
  ⟨⟨carded_quiet, by decide⟩, ⟨quiet_of (calm_of rfl (Or.inr rfl) rfl rfl rfl) rfl rfl rfl rfl, rfl⟩,
    fun _ => ⟨calm_of rfl (Or.inr rfl) rfl rfl rfl, rfl, rfl, rfl, rfl, rfl, Nat.le_of_ble_eq_true rfl⟩, by decide, by decide⟩

/-- A point quarantined by readback. -/
def quarantined : State := { carded with mxc := { carded.mxc with quar := [(5, .readback)] } }

theorem witness_OtherStartsAreRefusedInOrder :
    (running.quiet ∧ running.active = true) ∧
    (backlogged.quiet ∧ backlogged.active = false ∧ backlogged.hvc.dischLatch = false ∧ backlogged.pre.enable = true ∧
      2 ≤ backlogged.pre.slots.length) ∧
    (quarantined.quiet ∧ startRefusal .zero quarantined = none ∧ 4096 ≤ (4096#16).toNat ∧
      quarantined.present 128 = false ∧ quarantined.present 5 = true ∧ quarantined.quar 5 ≠ .none) :=
  ⟨⟨running_quiet, by decide⟩, ⟨quiet_of (calm_of rfl (Or.inl (by decide)) rfl rfl rfl) rfl rfl rfl rfl, by decide⟩,
    quiet_of (calm_of rfl (Or.inr rfl) rfl rfl rfl) rfl rfl rfl rfl, by decide⟩

theorem witness_PauseAddsItsReason :
    (carded.quiet ∧ carded.rnc.state = .idle) ∧ running.quiet ∧ running.rnc.state = .running ∧
    running.rnc.verdict = .none := ⟨⟨carded_quiet, rfl⟩, running_quiet, rfl, rfl⟩

/-- A run HELD by these reasons whose ISE waits for a permit for its unit. -/
def waiting (h : HoldSet) (full : Bool) : State :=
  { heldBy h with
    rnc := { (heldBy h).rnc with waits := true }
    ise := some { insulJob .ir0 with phase := .parked }
    dlg := { Dlg.reset with recs := if full then List.replicate 256 (rec7 true) else [] } }

/-- A full log fails its check. -/
theorem checks_full {s : State} {k : UnitKind} (h : 256 ≤ s.dlg.recs.length) : s.checks k ≠ .empty := by
  simp [State.checks, HoldSet.empty, h]

/-- GUARD held and the guard open; PAUSE alone held, no engine waiting, and the ISE waiting with room in the log and without;
LOG_FULL held too. -/
theorem witness_ResumeRemovesItsReasons :
    (({ heldBy { HoldSet.empty with guard := true } with hvc := { Hvc.reset with guardClosed := false } } : State).quiet) ∧
    ((heldBy { HoldSet.empty with pause := true }).quiet ∧ (heldBy { HoldSet.empty with pause := true }).rnc.waits = false ∧
      (heldBy { HoldSet.empty with pause := true }).mxc.batch = none) ∧
    (∀ h full, (waiting h full).quiet ∧ (waiting h full).rnc.waits = true ∧ (waiting h full).mxc.batch = none ∧
      (waiting h full).dlg.heldBack = none) ∧
    (waiting .empty false).taken.waitingBatch ≠ none ∧ (waiting .empty false).taken.checks .insulation = .empty ∧
    (waiting .empty true).taken.checks .insulation ≠ .empty ∧
    (heldBy { HoldSet.empty with pause := true, logFull := true }).quiet := by
  refine ⟨quiet_of (calm_of rfl (Or.inr rfl) rfl rfl rfl) rfl rfl rfl rfl, ⟨held_quiet _, rfl, rfl⟩,
    fun _ _ => ⟨quiet_of (calm_of rfl (Or.inr rfl) rfl rfl rfl) rfl rfl rfl rfl, rfl, rfl, rfl⟩, by decide, by decide, ?_, held_quiet _⟩
  exact checks_full (Nat.le_of_eq (List.length_replicate (n := 256) (a := rec7 true)).symm)

theorem witness_AbortEndsTheRun :
    (carded.quiet ∧ carded.active = false) ∧
    ((endingWith []).quiet ∧ (endingWith []).active = true ∧ (endingWith []).live = false) ∧
    (running.quiet ∧ running.live = true ∧ running.hvc.state = .off ∧ running.hvc.bus ≤ 30000 ∧
      running.mxc.batch = none) ∧
    ((energised .dwell .ir0).quiet ∧ (energised .dwell .ir0).live = true ∧ (energised .dwell .ir0).hvc.sourceOn = true ∧
      (energised .dwell .ir0).mxc.batch = none ∧ (energised .dwell .ir0).msu.busWait = false) :=
  ⟨⟨carded_quiet, by decide⟩, ⟨ending_quiet _, by decide⟩, ⟨running_quiet, by decide⟩, energised_quiet _ _, by decide⟩

/-- No live run; the bus safe, above 30 V with the latch set and without. -/
theorem witness_EndCauseIsTakenOnce :
    carded.live = false ∧ running.live = true ∧ (running.hvc.state = .off ∧ running.hvc.bus ≤ 30000) ∧
    (∀ l, ({ running with hvc := { Hvc.reset with bus := 30001, dischLatch := l } } : State).live = true) := by decide

theorem witness_PermitFollowsTheBoundaryChecks :
    (permit .low running).1 = .grant ∧ (permit .insulation running).1 = .grant ∧
    (running.rnc.state = .running ∧ running.rnc.verdict = .none ∧ running.rnc.hold.join (running.checks .insulation) = .empty) ∧
    (({ running with hvc := { Hvc.reset with guardClosed := false } } : State).checks .insulation ≠ .empty) ∧
    (∀ h, (heldBy h).rnc.state = .held ∧ (heldBy h).rnc.verdict = .none) ∧ carded.live = false := by
  refine ⟨by decide, by decide, by decide, by decide, fun _ => ⟨rfl, rfl⟩, by decide⟩

/-- A free slot, and none (256 records); a LOG action, an ABORT, and the limit reached by a LOG. -/
theorem witness_CreatedRecordIsCountedAndActsOnce :
    running.rnc.state = .running ∧ running.rnc.verdict = .none ∧ running.dlg.entry = none ∧
    running.rnc.total + 1 ≠ running.rnc.limit ∧ running.rnc.actions.get DefectKind.opn.idx = .log ∧
    running.rnc.actions.get DefectKind.trip.idx = .abort ∧
    ({ running.rnc with limit := 1 } : Rnc).total + 1 = 1 ∧ running.dlg.recs.length < 256 ∧
    256 ≤ (List.replicate 256 (rec7 true)).length := by
  refine ⟨by decide, by decide, by decide, by decide, by decide, by decide, by decide, by decide, ?_⟩
  exact le_of_eq (List.length_replicate ..).symm

theorem witness_ProbeAsksForItsBatch : carded.quiet ∧ carded.active = false := ⟨carded_quiet, by decide⟩

/-- Nothing to take; a record with and without a print mark; one in the entry place; LOG_FULL alone held. -/
theorem witness_DefectTakeGivesTheOldestRecord :
    (State.reset.quiet ∧ State.reset.dlg.recs = []) ∧
    ((logged true).quiet ∧ (logged true).dlg.entry = none ∧ (logged true).rnc.hold.logFull = false ∧
      (logged true).dlg.recs = [] ++ rec7 true :: [] ∧ (rec7 true).host = true ∧ (rec7 true).inStream = false) ∧
    (logged false).quiet ∧
    (({ logged false with dlg := { (logged false).dlg with entry := some (rec7 true) } } : State).quiet) ∧
    (({ heldBy { HoldSet.empty with logFull := true } with dlg := (logged false).dlg } : State).quiet ∧
      (heldBy { HoldSet.empty with logFull := true }).live = true) :=
  ⟨⟨reset_quiet, rfl⟩, ⟨logged_quiet _, by decide⟩, logged_quiet _, quiet_of (calm_of rfl (Or.inr rfl) rfl rfl rfl) rfl rfl rfl rfl,
    quiet_of (calm_of rfl (Or.inr rfl) rfl rfl rfl) rfl rfl rfl rfl, by decide⟩

theorem witness_StreamSetSwitchesTheStream :
    1 < (2#8).toNat ∧ State.reset.quiet ∧ (logged false).quiet ∧ (logged false).dlg.recs = rec7 false :: [] ∧
    (rec7 false).host = true ∧ (rec7 false).inStream = false ∧ (logged false).flk.notices = [] :=
  ⟨by decide, reset_quiet, logged_quiet _, by decide⟩

theorem witness_PrintSetStoresItsSettings :
    (State.reset.quiet ∧ State.reset.pre.state = .disabled ∧ State.reset.pre.slots = []) ∧
    ((printing .printing none false).quiet ∧ (printing .printing none false).pre.state = .printing) ∧
    ((printing .noPaper none false).quiet ∧ (printing .noPaper none false).rnc.hold.logFull = false) :=
  ⟨⟨reset_quiet, rfl, rfl⟩, ⟨printing_quiet _ (by decide) _ _, rfl⟩, printing_quiet _ (by decide) _ _, rfl⟩

/-- DISABLED; IDLE without a line; a line of which a character is sent; a closing CR LF whose CR is on the wire. -/
theorem witness_PrintCancelClearsThePrinter :
    (State.reset.quiet ∧ State.reset.pre.state = .disabled) ∧
    (∃ s : State, s.quiet ∧ s.pre.state ≠ .disabled ∧ s.pre.line = none ∧ s.pre.disPending = false ∧
      s.rnc.hold.logFull = false) ∧
    ((printing .stalled none false).quiet ∧ (printing .printing none false).quiet ∧ 0 < line2.sent ∧ line2.kind ≠ .crlf) ∧
    (({ carded with pre := { Pre.reset with state := .printing, line := some { line2 with kind := .crlf }, onWire := some 13#8 } } :
      State).quiet) ∧
    (let s : State := { heldBy { HoldSet.empty with logFull := true } with
      pre := { Pre.reset with state := .stalled, enable := true, slots := [slotFor 0 7] }
      dlg := { Dlg.reset with recs := [{ rec7 true with host := false }] } }
     s.quiet ∧ s.pre.state ≠ .disabled ∧ s.live = true ∧ s.rnc.hold.logFull = true ∧ s.mxc.batch = none ∧
      ∃ r ∈ s.dlg.recs, r.host = false) :=
  ⟨⟨reset_quiet, rfl⟩,
    ⟨{ carded with pre := { Pre.reset with state := .idle, enable := true } },
      quiet_of (calm_of rfl (Or.inr rfl) rfl rfl rfl) rfl rfl rfl rfl, by decide⟩,
    ⟨printing_quiet _ (by decide) _ _, printing_quiet _ (by decide) _ _, by decide⟩,
    quiet_of (calm_of rfl (Or.inr rfl) rfl rfl rfl) rfl rfl rfl rfl,
    quiet_of (calm_of rfl (Or.inl nofun) rfl rfl rfl) rfl rfl rfl rfl, by decide⟩

/-- The bus at 30001 mV and at 30000 mV; a set trip latch that holds a run, RUNNING and HELD. -/
theorem witness_SafetyRequestsReleaseAndRead :
    (({ carded with hvc := { Hvc.reset with bus := 30001 } } : State).quiet) ∧
    (({ carded with hvc := { Hvc.reset with bus := 30000 } } : State).quiet) ∧
    (∃ s : State, s.quiet ∧ s.hvc.bus ≤ 30000 ∧ s.hvc.tripLatch = true ∧ s.rnc.hold.tripLatched = true ∧
      s.rnc.state = .running) ∧
    (∃ s : State, s.quiet ∧ s.hvc.bus ≤ 30000 ∧ s.hvc.tripLatch = true ∧ s.rnc.hold.tripLatched = true ∧
      s.rnc.state = .held ∧ s.rnc.verdict = .none ∧ s.mxc.batch = none) :=
  ⟨quiet_of (calm_of rfl (Or.inr rfl) rfl rfl rfl) rfl rfl rfl rfl, quiet_of (calm_of rfl (Or.inr rfl) rfl rfl rfl) rfl rfl rfl rfl,
    ⟨{ running with
        hvc := { Hvc.reset with tripLatch := true }
        rnc := { running.rnc with hold := { HoldSet.empty with tripLatched := true } } },
      quiet_of (calm_of rfl (Or.inr rfl) rfl rfl rfl) rfl rfl rfl rfl, by decide⟩,
    { waiting { HoldSet.empty with tripLatched := true } false with hvc := { Hvc.reset with tripLatch := true } },
    quiet_of (calm_of rfl (Or.inr rfl) rfl rfl rfl) rfl rfl rfl rfl, by decide⟩

/-- A WATCHDOG-SET that waits behind a reply, the timer run out. -/
theorem witness_LinkSettingsAreStored :
    State.reset.quiet ∧ ({ State.reset with flk := { Flk.reset with
      busy := true, ranOut := true, requests := [.ok (.watchdogSet 5#8)]
      wire := replyWire (replyFrame 0x20#8 []) } } : State).settled :=
  ⟨reset_quiet, rfl, fun _ => Or.inl rfl, Or.inl rfl, nofun⟩

/-- The last byte of PAUSE's frame, and of RUN-READ's with one byte too many. -/
theorem witness_AcceptedFramesAreCarriedOutOrRefused :
    State.reset.quiet ∧ ({ State.reset with flk := { Flk.reset with asm := .check 1 [0x12#8] } } : State).quiet ∧
    ((0x12#8).toNat + (([] : List Byte).map BitVec.toNat).sum + 1 + (0xED#8).toNat) % 256 = 0 ∧
    decodeRequest 0x12#8 [] = .ok .pause ∧
    ((0x15#8).toNat + ([0#8].map BitVec.toNat).sum + 2 + (0xE9#8).toNat) % 256 = 0 ∧
    decodeRequest 0x15#8 [0#8] = .badLength 0x15#8 :=
  ⟨reset_quiet, quiet_of (calm_of rfl (Or.inr rfl) rfl rfl rfl) rfl rfl rfl rfl, by decide⟩

theorem witness_RequestedResetsKeepWhatTheyShould : (energised .ramp .ir0).quiet := energised_quiet _ _

/-- A scan of RESET-ALL at this slot. -/
def scanning (slot : Nat) (lost : Bool) : State :=
  { carded with
    mxc := { carded.mxc with scan := some { slot := slot, kind := .all, hadLost := lost } }
    resetting := some { kind := .all, leftRun := false, preChanged := false } }

theorem scanning_scanLaw (slot : Nat) (lost : Bool) (h : slot < 64) : (scanning slot lost).scanLaw := by
  intro sc hsc
  cases hsc
  exact ⟨h, nofun, rfl⟩

theorem witness_ScanRecordsEachSlot :
    (∀ k l, (scanning k l).calm) ∧ (scanning 0 true).scanLaw ∧ (scanning 62 false).scanLaw ∧ (∀ l, (scanning 63 l).scanLaw) ∧
    SMap.wf .none (scanning 62 false).mxc.quar ∧
    ({ slot := 62, ctype := some .high, rating := 1500, operate := 0, release := 0 } : Answer).slot = 62 :=
  ⟨fun _ _ => calm_of rfl (Or.inr rfl) rfl rfl rfl, scanning_scanLaw _ _ (by decide), scanning_scanLaw _ _ (by decide),
    fun _ => scanning_scanLaw _ _ (by decide), by decide, by decide⟩

/-- A running run with these connections, this request held, and this window. -/
def requesting (conn : SMap Conn) (r : BatchReq) (w : Option Window) : State :=
  { running with
    mxc := { running.mxc with conn := conn, held := [r] }
    msu := { Msu.reset with window := w }
    wte := some { p := watchPlan, pairs := [], cursor := 0, quiet := 0, maxDead := 0, stage := .sampling, recOnly := false,
                  phase := .connecting } }

/-- P0000 is on A and the request names P0001 and P0064; no relay is closed; the reset batch; an open gate of the WTE. -/
theorem witness_BatchRequestBeginsTheOpenPhase :
    let r : BatchReq := { a := [1], b := [64], run := true, who := .cte }
    let s := requesting [(0, .a)] r none
    (∀ c r w, (requesting c r w).calm ∧ (requesting c r w).mxc.held = r :: [] ∧ (requesting c r w).mxc.batch = none ∧
      (requesting c r w).mxc.scan = none ∧ (requesting c r w).hvc.dischLatch = false ∧
      (requesting c r w).hvc.sourceOn = false ∧ (requesting c r w).hvc.bus ≤ 30000) ∧
    SMap.wf .opn s.mxc.conn ∧ s.conn 0 ≠ .opn ∧ 0 ∉ r.a ∧ 0 ∉ r.b ∧ (requesting [] r none).conn 64 = .opn ∧
    (requesting [] r none).usable 64 = true ∧ SMap.wf .absent s.mxc.cards ∧ s.card 0 = .present lowCard ∧
    (requesting [] r (some { owner := .wte, la := none, lb := none, sampling := true })).msu.window.isSome = true :=
  ⟨fun _ _ _ => ⟨calm_of rfl (Or.inr rfl) rfl rfl rfl, rfl, rfl, rfl, rfl, rfl, Nat.le_of_ble_eq_true rfl⟩, by decide⟩

/-- A bus of 30001 mV, and the discharge-fault latch. -/
theorem witness_BatchRequestMayFreezeSettleOrWait :
    ((endingWith [0]).calm ∧ (endingWith [0]).conn 0 ≠ .opn ∧ (endingWith [0]).rnc.state = .ending ∧
      (endingWith [0]).pre.slots = [] ∧ (endingWith [0]).mxc.batch = none ∧ (endingWith [0]).mxc.scan = none) ∧
    (({ endingWith [0] with hvc := { Hvc.reset with dischLatch := true } } : State).calm) ∧
    ((endingWith []).calm ∧ ∀ p, (endingWith []).conn p = .opn) ∧
    (({ endingWith [0] with hvc := { Hvc.reset with bus := 30001 } } : State).calm) :=
  ⟨⟨(ending_quiet _).1, by decide⟩, calm_of rfl (Or.inr rfl) rfl rfl rfl, ⟨(ending_quiet _).1, fun _ => rfl⟩,
    calm_of rfl (Or.inr rfl) rfl rfl rfl⟩

/-- The last acknowledge of the open phase, one card having acknowledged before; the first of two in the close phase; one of
an opening of R17, with no batch in flight. -/
theorem witness_AcknowledgeRecordsTheConnection :
    let opening := batched { batchIn .opening [{ point := 3, side := .a }] [] with phaseAcked := [1] } [(3, .a)]
    let closing := batched (batchIn .closing [{ point := 0, side := .a }, { point := 64, side := .b }] []) []
    (opening.calm ∧ opening.card 0 = .present lowCard ∧ opening.card 1 = .present highCard ∧ opening.quar 3 = .none ∧
      opening.conn 3 = connOf .a) ∧
    (closing.calm ∧ closing.card 1 = .present highCard ∧ closing.quar 64 = .none) ∧
    (({ running with mxc := { running.mxc with opens := [{ point := 3, side := .a }] } } : State).calm) :=
  ⟨⟨(batched_quiet _ _).1, by decide⟩, ⟨(batched_quiet _ _).1, by decide⟩, calm_of rfl (Or.inr rfl) rfl rfl rfl⟩

/-- With a notice class on and nothing on the wire, and with a frame on it. -/
theorem witness_SilentCardIsLost :
    let closing := batched (batchIn .closing [{ point := 0, side := .a }, { point := 64, side := .b }] []) []
    let reading := batched (batchIn .readback [] [0, 1]) [(0, .a), (64, .b)]
    (closing.calm ∧ closing.card 1 = .present highCard) ∧ (reading.calm ∧ reading.card 1 = .present highCard) ∧
    (∀ f : Flk, f.requests = [] → ({ closing with flk := f } : State).calm) ∧
    (closing.flk.wire = none ∧ closing.flk.reply = none ∧ closing.resetting = none ∧ closing.flk.notices = []) ∧
    ({ closing.flk with classCard := true, wire := replyWire (replyFrame 0x15#8 []) } : Flk).wire ≠ none ∧
    (let last := batched { batchIn .opening [{ point := 3, side := .a }] [] with phaseAcked := [1] } [(3, .a)]
     last.calm ∧ last.card 0 = .present lowCard ∧ (last.card 1).isPresent = true) ∧
    (let s : State := { endingWith [] with mxc := { running.mxc with
      batch := some { batchIn .readback [] [0] with req := { a := [], b := [], run := false, who := .teardown } } } }
     s.calm ∧ s.mxc.held = [] ∧ s.rnc.state = .ending ∧ s.pre.slots = [] ∧ s.card 0 = .present lowCard) ∧
    (({ running with mxc := { running.mxc with opens := [{ point := 3, side := .a }] } } : State).calm ∧
      running.mxc.batch = none ∧ running.card 0 = .present lowCard) :=
  ⟨⟨(batched_quiet _ _).1, by decide⟩, ⟨(batched_quiet _ _).1, by decide⟩, fun _ h => calm_of rfl (Or.inr rfl) rfl rfl h,
    by decide, nofun, ⟨(batched_quiet _ _).1, by decide⟩, ⟨calm_of rfl (Or.inr rfl) rfl rfl rfl, by decide⟩,
    calm_of rfl (Or.inr rfl) rfl rfl rfl, by decide⟩

theorem witness_PhaseWaitsLeadOn :
    let opened := batched (batchIn .openWait [] []) []
    let closed := batched (batchIn .closeWait [] []) [(0, .a), (64, .b)]
    (opened.calm ∧ opened.usable 0 = true ∧ SMap.wf .opn (batchIn .openWait [] []).adj ∧
      (batchIn .openWait [] []).adj.get .opn 0 ≠ .opn ∧ opened.conn 0 ≠ (batchIn .openWait [] []).adj.get .opn 0) ∧
    (closed.calm ∧ (closed.card 0).isPresent = true) :=
  ⟨⟨(batched_quiet _ _).1, by decide⟩, (batched_quiet _ _).1, by decide⟩

/-- Two cards to be read; the last card of a teardown, of the reset batch, and of a CONT pair, sound and with P0005 stuck. -/
theorem witness_ReadbackQuarantinesWhatFailed :
    let last (who : Requester) : Batch := { batchIn .readback [] [0] with req := { a := [], b := [], run := true, who := who } }
    let ending : State := { endingWith [] with mxc := { running.mxc with batch := some (last .teardown) } }
    let resets : State := { carded with
      mxc := { carded.mxc with batch := some (last .reset) }
      resetting := some { kind := .work, leftRun := true, preChanged := false }
      flk := { Flk.reset with classRun := true } }
    let pair : State := { batched (last .cte) [] with cte := .cont (contJob .pairs .fresh) }
    ((batched (batchIn .readback [] [0, 1]) [(0, .a), (64, .b)]).calm ∧ 0 ∈ (batchIn .readback [] [0, 1]).reads ∧
      (∃ j ∈ (batchIn .readback [] [0, 1]).reads, j ≠ 0)) ∧
    ((∀ j ∈ (last .cte).reads, j = 0) ∧ (last .cte).stuck = false ∧ (last .cte).aborted = false ∧ (last .cte).faults = [] ∧
      (last .cte).excl = [] ∧ (0#64).getLsbD 5 = false ∧ (32#64).getLsbD (5 % 64) = true) ∧
    (ending.calm ∧ ending.rnc.state = .ending ∧ ending.pre.slots = [] ∧ ending.mxc.held = [] ∧ ∀ p, ending.conn p = .opn) ∧
    (resets.calm ∧ resets.mxc.held = [] ∧ ∀ p, resets.conn p = .opn) ∧
    (pair.calm ∧ pair.mxc.held = [] ∧ pair.ise = none ∧ pair.wte = none ∧ pair.dlg.heldBack = none ∧
      pair.rnc.total < pair.rnc.limit ∧ pair.hvc.bus ≤ 30000 ∧ ∀ p, pair.conn p = .opn) :=
  ⟨⟨(batched_quiet _ _).1, by decide⟩, by decide, ⟨calm_of rfl (Or.inr rfl) rfl rfl rfl, rfl, rfl, rfl, fun _ => rfl⟩,
    ⟨calm_of rfl (Or.inr rfl) rfl rfl rfl, rfl, fun _ => rfl⟩,
    calm_of rfl (Or.inr rfl) rfl rfl rfl, rfl, rfl, rfl, rfl, by decide, by decide, fun _ => rfl⟩

/-- A window of PROBE on P0000 and P0064, settling or sampling. -/
def probing (sampling : Bool) : State :=
  { carded with
    probe := some { a := 0, b := 64, sel := .fixed .cr0, result := .ok, reading := none }
    msu := { Msu.reset with window := some { owner := .probe, la := some 0, lb := some 64, sampling := sampling } } }

theorem witness_WindowOpensAndSettles :
    (∃ (s : State) (w : WinReq), s.calm ∧ s.msu.waiting = w :: [] ∧ s.msu.window = none ∧ s.msu.busWait = false ∧
      s.moving = false ∧ s.hvc.sourceOn = false ∧ s.hvc.bus ≤ 30000) ∧
    ((probing false).calm ∧ (probing false).msu.window.isSome = true) :=
  ⟨⟨{ carded with msu := { Msu.reset with waiting := [{ owner := .wte, range := .cr0, la := none, lb := none }] } },
      _, calm_of rfl (Or.inr rfl) rfl rfl rfl, rfl, by decide⟩,
    calm_of rfl (Or.inr rfl) rfl rfl rfl, rfl⟩

/-- A pair of net 5 in measurement, with this filter. -/
def pairing (range : CRange) (f : Filter) : State :=
  { sampled .cte range (some 2) (some 4) with cte := .cont (contJob .pairs f) }

/-- The watch engine sampling its first pair, which is so. -/
def watched (p : PairRec) : State :=
  { sampled .wte .cr1 (some 0) (some 64) with
    rnc := { running.rnc with clock := 1000, unit := some .low }
    wte := some { p := watchPlan, pairs := [p, { a := 1, b := 65, state := .unknown, count := 0, brk := none }], cursor := 0,
                  quiet := 31000, maxDead := 301000, stage := .sampling, recOnly := false, phase := .measuring } }

/-- A pair in BREAK since 900 ms, its peak 200 ohms. -/
def brokenPair : PairRec := { a := 0, b := 64, state := .brk, count := 1, brk := some (900, .value 200000) }

theorem witness_SampleGivesProbeItsResistance :
    ((probing true).calm ∧ (probing true).msu.contRange = .cr0 ∧ (probing true).msu.waiting = [] ∧
      (probing true).msu.busWait = false) ∧
    (∀ r f, (pairing r f).calm ∧ (pairing r f).unhindered) ∧ (pairing .cr0 .fresh).usable 10 = true ∧
    ((pairing .cr0 .fresh).members 5).find? (fun q => 4 + 1 ≤ q && q != 2 && !([] : List Nat).contains q) = some 10 ∧
    (pairing .cr0 .fresh).onlyLogged .opn ∧
    (∀ p, (watched p).calm ∧ (watched p).unhindered) ∧ (watched brokenPair).onlyLogged .intmit ∧
    (let s : State := { watched brokenPair with rnc := { (watched brokenPair).rnc with limit := 1 } }
     s.calm ∧ s.unhindered ∧ s.rnc.total + 1 = s.rnc.limit) ∧
    reached 1000 31000 = false ∧ reached 1000 301000 = false ∧ (watched brokenPair).usable 65 = true :=
  ⟨⟨calm_of rfl (Or.inr rfl) rfl rfl rfl, rfl, rfl, rfl⟩,
    fun _ _ => ⟨calm_of rfl (Or.inr rfl) rfl rfl rfl, rfl, rfl, rfl, rfl, rfl, Nat.le_of_ble_eq_true rfl⟩, by decide, by decide, ⟨rfl, by decide⟩,
    fun _ => ⟨calm_of rfl (Or.inr rfl) rfl rfl rfl, rfl, rfl, rfl, rfl, rfl, Nat.le_of_ble_eq_true rfl⟩, ⟨rfl, by decide⟩,
    ⟨calm_of rfl (Or.inr rfl) rfl rfl rfl, ⟨rfl, rfl, rfl, rfl, rfl, Nat.le_of_ble_eq_true rfl⟩, rfl⟩, by decide, by decide, by decide⟩

/-- A reading under way: at the ramp check with HVM code 18000 (450 V of 500) and 17999; in DWELL on each range, with LOW and
other readings, the reading after a range change, and at the dwell time out. -/
theorem witness_InsulationReadingsAreJudged :
    let ramp : State := { energised .ramp .ir0 with msu := { Msu.reset with reading := true }
                                                    hvc := { (energised .ramp .ir0).hvc with checking := true } }
    let dwell (j : InsulJob) : State :=
      { energised .dwell .ir2 with msu := { Msu.reset with reading := true, leakRange := j.leak }, ise := some j }
    (ramp.calm ∧ ramp.hvc.checking = true ∧ ramp.hvc.energ.target * 9 ≤ 18000 * 25 * 10 ∧
      17999 * 25 * 10 < ramp.hvc.energ.target * 9 ∧ ramp.msu.leakRange = .ir0) ∧
    (∀ j, (dwell j).calm ∧ (dwell j).msu.reading = true ∧ (dwell j).ise = some j ∧ (dwell j).msu.leakRange = j.leak) ∧
    (∀ r, (insulJob r).leak = r ∧ (insulJob r).low + 1 < (insulJob r).p.n ∧ (insulJob r).p.localise = true ∧
      (insulJob r).verdict = .none ∧ (insulJob r).discard = false ∧ (insulJob r).timedOut = false) ∧
    ({ insulJob .ir2 with discard := true, timedOut := true } : InsulJob).verdict = .none :=
  ⟨⟨calm_of rfl (Or.inr rfl) rfl rfl rfl, by decide⟩, fun _ => ⟨calm_of rfl (Or.inr rfl) rfl rfl rfl, rfl, rfl, rfl⟩,
    fun _ => ⟨rfl, Nat.le_of_ble_eq_true rfl, rfl, rfl, rfl, rfl⟩, rfl⟩

/-- A discharge with these waiters. -/
def discharging (ws : List Waiter) (r : RunState) : State :=
  { running with
    rnc := { running.rnc with state := r }
    hvc := { Hvc.reset with state := .discharge, timer := true, bus := 500000, lamp := true, waiters := ws } }

/-- An energisation at the end of its discharge, with this verdict, the run held so. -/
def endingUnit (v : InsulVerdict) (h : HoldSet) (struck : Bool) : State :=
  { energised .discharge .ir0 with
    nst := { nets := [(1, [0, 1]), (6, [20, 21])], leads := [] }
    rnc := { running.rnc with unit := some .insulation, hold := h, struck := struck }
    ise := some { insulJob .ir0 with verdict := v, nets := [1, 6] }
    hvc := { (energised .discharge .ir0).hvc with timer := true, bus := 500000 } }

/-- A code of 1200 reads 30,000 mV, the limit itself; each waiter; an energisation that the guard struck, one removed, and one
that passed. -/
theorem witness_BusReadingEndsADischarge :
    (running.calm ∧ running.hvc.state ≠ .discharge) ∧
    ((discharging [] .idle).calm ∧ busVoltage .identity 1200#16 = 30000 ∧ busVoltage .identity 1201#16 = 30025) ∧
    ((discharging [.rnc] .running).calm ∧ (discharging [.rnc] .running).ise = none) ∧
    (({ discharging [.mxc] .running with
      mxc := { running.mxc with batch := some (batchIn .busWait [] []), conn := [(3, .a)] } } : State).calm) ∧
    (({ discharging [.msu] .running with
      msu := { Msu.reset with waiting := [{ owner := .cte, range := .cr0, la := none, lb := none }], busWait := true } } :
      State).calm) ∧
    ((endingUnit .none { HoldSet.empty with guard := true } true).calm ∧
      (endingUnit .none { HoldSet.empty with guard := true } true).rnc.struck = true ∧
      (endingUnit .none { HoldSet.empty with pause := true } false).calm ∧ (endingUnit .none .empty false).calm ∧
      (endingUnit .pass .empty false).calm ∧ (endingUnit .pass .empty false).candidates 6 ≠ [] ∧
      (endingUnit .pass .empty false).usable 20 = true) := by
  refine ⟨⟨running_quiet.1, by decide⟩, ⟨calm_of rfl (Or.inr rfl) rfl rfl rfl, by decide⟩,
    ⟨calm_of rfl (Or.inr rfl) rfl rfl rfl, rfl⟩, calm_of rfl (Or.inr rfl) rfl rfl rfl,
    calm_of rfl (Or.inr rfl) rfl rfl rfl, ⟨⟨rfl, fun _ => Or.inl rfl, Or.inl rfl, fun _ => rfl⟩, rfl⟩, rfl,
    calm_of rfl (Or.inr rfl) rfl rfl rfl, calm_of rfl (Or.inr rfl) rfl rfl rfl, calm_of rfl (Or.inr rfl) rfl rfl rfl, ?_, by decide⟩
  exact List.ne_nil_of_mem (a := 64) (by decide)

/-- Outside a run; in a live run, without and with an energisation; in one that closes out; with a waiting batch of the
teardown, of a CONT pair, without and with a lost card, and of a LEARN search that excludes P0005; with a waiting window of PROBE and of the CTE. -/
theorem witness_DischargeFaultLatches :
    let waits (who : Requester) (fs : List MFault) : State := { discharging [.mxc] .running with
      cte := .cont (contJob .pairs .fresh)
      mxc := { running.mxc with
        batch := some { batchIn .busWait [] [] with req := { a := [], b := [], run := true, who := who }, faults := fs } } }
    let window (o : Owner) (st : RunState) : State := { discharging [.msu] st with
      probe := some { a := 0, b := 64, sel := .auto, result := .ok, reading := none }
      msu := { Msu.reset with waiting := [{ owner := o, range := .cr0, la := none, lb := none }], busWait := true } }
    (carded.calm ∧ carded.hvc.timer = false) ∧
    ((discharging [] .idle).calm ∧ (discharging [] .idle).active = false ∧ (discharging [] .idle).ise = none) ∧
    ((discharging [] .running).calm ∧ (discharging [] .running).live = true ∧ (discharging [] .running).mxc.batch = none) ∧
    ((endingUnit .none .empty false).calm ∧ (endingUnit .none .empty false).hvc.energised = true ∧
      (endingUnit .none .empty false).rnc.total < (endingUnit .none .empty false).rnc.limit) ∧
    (({ discharging [.rnc] .running with rnc := { running.rnc with verdict := .pass } } : State).calm) ∧
    (∀ who fs st, ({ waits who fs with rnc := { running.rnc with state := st } } : State).calm) ∧
    ((waits .cte []).live = true ∧ 30000 < (waits .cte [.lost 1]).hvc.bus ∧ (waits .cte []).mxc.held = []) ∧
    (let s : State := { waits .gsu [] with
      cte := .learn (learnJob .conduct none)
      mxc := { running.mxc with batch := some { batchIn .busWait [] [] with
        req := { a := [0], b := [5], run := true, who := .gsu }
        excl := [{ point := 5, side := .b, reason := .quarantined }] } } }
     s.calm ∧ s.rnc.total < s.rnc.limit ∧ (learnJob .conduct none).reported = []) ∧
    (∀ o st, (window o st).calm ∧ (window o st).msu.waiting ≠ [] ∧ (window o st).mxc.batch = none) ∧
    (window .probe .idle).active = false ∧ (window .cte .running).live = true :=
  ⟨⟨carded_quiet.1, rfl⟩, ⟨calm_of rfl (Or.inr rfl) rfl rfl rfl, by decide⟩,
    ⟨calm_of rfl (Or.inr rfl) rfl rfl rfl, by decide⟩, ⟨calm_of rfl (Or.inr rfl) rfl rfl rfl, by decide⟩,
    calm_of rfl (Or.inr rfl) rfl rfl rfl, fun _ _ _ => calm_of rfl (Or.inr rfl) rfl rfl rfl, by decide,
    ⟨calm_of rfl (Or.inr rfl) rfl rfl rfl, by decide⟩, fun _ _ => ⟨calm_of rfl (Or.inr rfl) rfl rfl rfl, nofun, rfl⟩, by decide, by decide⟩

theorem witness_EnergisationRunsItsCourse :
    (∃ s : State, s.calm ∧ s.hvc.waitEnable = some energ500 ∧ s.moving = false ∧ s.msu.window = none ∧
      s.hvc.guardClosed = true ∧ s.hvc.tripLatch = false ∧ s.hvc.dischLatch = false ∧ s.hvc.linkExpired = false ∧
      s.rnc.state = .running ∧ s.rnc.verdict = .none ∧ s.rnc.unit = some .insulation) ∧
    (∃ s : State, s.calm ∧ s.hvc.state = .ramp ∧ s.hvc.setpoint < s.hvc.energ.target) ∧
    (∃ s : State, s.calm ∧ s.hvc.state = .ramp ∧ s.hvc.holding = true ∧ s.ise = some (insulJob .ir0)) ∧
    ((energised .dwell .ir0).calm ∧ (energised .dwell .ir0).hvc.dwellClock + 10 < 1000 ∧
      (insulJob .ir0).verdict = .none ∧ (energised .dwell .ir0).msu.reading = false) :=
  ⟨⟨{ energised .off .ir0 with hvc := { Hvc.reset with waitEnable := some energ500 } },
      calm_of rfl (Or.inr rfl) rfl rfl rfl, by decide⟩,
    ⟨{ energised .ramp .ir0 with hvc := { (energised .ramp .ir0).hvc with setpoint := 499999 } },
      calm_of rfl (Or.inr rfl) rfl rfl rfl, by decide⟩,
    ⟨{ energised .ramp .ir0 with hvc := { (energised .ramp .ir0).hvc with holding := true } },
      calm_of rfl (Or.inr rfl) rfl rfl rfl, by decide⟩,
    (energised_quiet _ _).1, by decide⟩

/-- Source off; one below both thresholds; an arc below the limit; a third reading above the trip level with a delay of two;
an arc at the limit; with the TRIP action HOLD, and at the defect limit. -/
theorem witness_FastReadingTripsAndArcs :
    let up (run arcs : Nat) : State :=
      { energised .dwell .ir0 with hvc := { (energised .dwell .ir0).hvc with tripRun := run, arcCount := arcs } }
    (carded.calm ∧ carded.hvc.sourceOn = false) ∧
    ((up 2 0).calm ∧ (up 2 0).ise = some (insulJob .ir0) ∧ (up 2 0).hvc.sourceOn = true ∧
      (insulJob .ir0).verdict = .none ∧ (up 2 0).rnc.state = .running ∧ (up 2 0).dlg.entry = none ∧
      (up 2 0).dlg.heldBack = none ∧ (up 2 0).mxc.batch = none ∧
      (up 2 0).hvc.energ.tripLevel < min 100000000 (20001 * 1000) ∧ (up 2 0).hvc.energ.tripDelay + 1 ≤ 2 + 1) ∧
    ((up 0 2).calm ∧ (up 0 2).hvc.energ.arcThr < 10001 * 1000 ∧ (up 0 2).hvc.lastFast ≤ (up 0 2).hvc.energ.arcThr ∧
      (up 0 2).hvc.energ.arcLimit ≤ 2 + 1 ∧ 0 + 1 < (up 0 2).hvc.energ.arcLimit) :=
  ⟨⟨carded_quiet.1, by decide⟩, ⟨calm_of rfl (Or.inr rfl) rfl rfl rfl, by decide⟩,
    calm_of rfl (Or.inr rfl) rfl rfl rfl, by decide⟩

theorem witness_GuardRemovesHighVoltage :
    (carded.calm ∧ carded.hvc.waitEnable = none ∧ carded.hvc.guardClosed = true ∧ carded.hvc.sourceOn = false) ∧
    (({ carded with hvc := { Hvc.reset with guardClosed := false } } : State).calm) ∧
    ((energised .dwell .ir0).calm ∧ (energised .dwell .ir0).hvc.waitEnable = none ∧
      (energised .dwell .ir0).hvc.guardClosed = true ∧ (energised .dwell .ir0).hvc.sourceOn = true ∧
      (energised .dwell .ir0).ise = some (insulJob .ir0) ∧ (energised .dwell .ir0).live = true) ∧
    (let s : State := { energised .off .ir0 with hvc := { Hvc.reset with waitEnable := some energ500 } }
     s.calm ∧ s.hvc.guardClosed = true ∧ s.hvc.sourceOn = false ∧ s.hvc.energised = false ∧
      s.ise = some (insulJob .ir0) ∧ (insulJob .ir0).stage = .unit ∧ s.rnc.state = .running ∧ s.hvc.tripLatch = false) :=
  ⟨⟨carded_quiet.1, by decide⟩, calm_of rfl (Or.inr rfl) rfl rfl rfl, ⟨(energised_quiet _ _).1, by decide⟩,
    calm_of rfl (Or.inr rfl) rfl rfl rfl, by decide⟩

/-- The last character of a line of this kind on the wire, with this slot and these records. -/
def lineDone (k : LineKind) (slots : List Slot) (recs : List Rec) : State :=
  { carded with
    dlg := { Dlg.reset with recs := recs }
    pre := { Pre.reset with state := .printing, enable := true, slots := slots, onWire := some 10#8,
                            inPrint := some (rec7 true), line := some { line2 with rest := [], kind := k } } }

theorem witness_PrinterObeysItsInputs :
    ((printing .printing (some 66#8) false).calm ∧ (printing .printing (some 66#8) false).pre.line = some line2 ∧
      line2.rest = 65#8 :: [13#8] ∧ (printing .printing (some 66#8) false).pre.disPending = false ∧
      (printing .printing (some 66#8) false).pre.paper = true) ∧
    ((printing .printing none true).calm ∧ (printing .printing none true).pre.busyTimer = true) ∧
    (printing .stalled none false).calm ∧ (printing .noPaper none false).calm ∧
    (∀ k sls recs, (lineDone k sls recs).calm) ∧
    (footerLines { verdict := .pass, reason := .completed, counts := Vector.replicate 11 0, total := 0 }).length = 1 ∧
    ((rec7 true).seq < 65536 ∧ (rec7 true).a < 4096) :=
  ⟨⟨(printing_quiet _ (by decide) _ _).1, by decide⟩, ⟨(printing_quiet _ (by decide) _ _).1, rfl⟩,
    (printing_quiet _ (by decide) _ _).1, (printing_quiet _ (by decide) _ _).1,
    fun _ _ _ => calm_of rfl (Or.inl nofun) rfl rfl rfl, by decide, by decide⟩

/-- L at its limits 0, 1, 250 and 251; a check byte that fails. -/
theorem witness_AssemblerTakesBytes :
    (∀ a : Asm, ({ carded with flk := { Flk.reset with asm := a } } : State).calm) ∧
    ¬(1 ≤ (0#8).toNat) ∧ (1 ≤ (1#8).toNat ∧ (250#8).toNat ≤ 250) ∧ ¬((251#8).toNat ≤ 250) ∧
    (([0x12#8].map BitVec.toNat).sum + 1 + (0xEC#8).toNat) % 256 ≠ 0 :=
  ⟨fun _ => calm_of rfl (Or.inr rfl) rfl rfl rfl, by decide⟩

theorem witness_FramesAreAssembled : (List.replicate 249 0#8).length ≤ 249 := by rw [List.length_replicate]

theorem witness_RequestsReadAsWritten :
    (Instr.netWrite 1#16 0#8 (List.replicate 122 0#16)).wellFormed = true ∧ (Instr.unknown 33#8).wellFormed = true ∧
    (encodeRequest (.unknown 33#8)).isSome = true := ⟨test_netWrite_of_122_points, by decide⟩

/-- A streamed N-DEFECT on the wire; the watchdog running in a run, with the source enabled, and with an energisation that
waits. -/
theorem witness_FrameSentAndWatchdogExpiry :
    (({ carded with flk := { Flk.reset with
        busy := true, wire := replyWire (replyFrame 0x15#8 []) } } : State).calm) ∧
    (({ carded with
        dlg := { Dlg.reset with recs := [{ rec7 false with inStream := true }] }
        flk := { Flk.reset with wire := some { frame := { type := 0x80#8, payload := [] }, isReply := false, stream := true } } } :
      State).calm) ∧
    (carded.calm ∧ carded.flk.wdRunning = false) ∧
    (({ running with flk := { Flk.reset with wdPeriod := 5, wdRunning := true } } : State).calm ∧
      running.hvc.sourceOn = false ∧ running.hvc.waitEnable = none) ∧
    (({ energised .dwell .ir0 with flk := { Flk.reset with wdPeriod := 5, wdRunning := true } } : State).calm ∧
      (energised .dwell .ir0).hvc.sourceOn = true ∧ (energised .dwell .ir0).live = true) ∧
    (({ energised .off .ir0 with
        hvc := { Hvc.reset with waitEnable := some energ500 }
        flk := { Flk.reset with wdPeriod := 5, wdRunning := true } } : State).calm) :=
  ⟨calm_of rfl (Or.inr rfl) rfl rfl rfl, calm_of rfl (Or.inr rfl) rfl rfl rfl, ⟨carded_quiet.1, rfl⟩,
    ⟨calm_of rfl (Or.inr rfl) rfl rfl rfl, by decide⟩, ⟨calm_of rfl (Or.inr rfl) rfl rfl rfl, by decide⟩,
    calm_of rfl (Or.inr rfl) rfl rfl rfl⟩

/-- An idle step from the state after reset with cards; a scan, and a step within it. -/
theorem witness_EveryStepKeepsThePointLaw :
    (carded.pointLaw ∧ step carded = .next carded) ∧
    ((scanning 62 false).scanLaw ∧ (scanning 62 false).mxc.scan ≠ none ∧
      step (scanning 62 false) = .next (scanning 62 false)) :=
  ⟨⟨fun _ h => absurd rfl h, rfl⟩, scanning_scanLaw _ _ (by decide), nofun, rfl⟩

theorem witness_EveryStepKeepsTheSourceAndGateLaws :
    ((energised .dwell .ir0).sourceLaw ∧ (energised .dwell .ir0).hvc.sourceOn = true ∧ (energised .dwell .ir0).gateLaw ∧
      (energised .dwell .ir0).movingLaw ∧ (energised .dwell .ir0).closedLaw) ∧
    ((probing true).gateLaw ∧ (probing true).msu.gateOpen = true) ∧
    ((batched (batchIn .opening [] []) []).movingLaw ∧ (batched (batchIn .opening [] []) []).moving = true) ∧
    step (energised .dwell .ir0) = .next (energised .dwell .ir0) :=
  ⟨⟨fun _ => ⟨rfl, rfl, rfl, rfl⟩, rfl, fun h => absurd h (by decide), fun h => absurd h (by decide),
      fun h => absurd h (by decide)⟩, ⟨fun _ => rfl, rfl⟩, ⟨fun _ => ⟨rfl, rfl⟩, rfl⟩, rfl⟩

theorem witness_EveryStepKeepsTheCapacities :
    (logged true).logLaw ∧ (logged true).planLaw ∧ (logged true).linkLaw ∧ (logged true).limitLaw ∧ (logged true).marksLaw ∧
    (logged true).slotsLaw ∧ running.limitLaw ∧ running.live = true ∧ step (logged true) = .next (logged true) := by
  refine ⟨Nat.le_of_ble_eq_true rfl, Nat.le_of_ble_eq_true rfl, ⟨by decide, by decide, by decide⟩,
    ⟨by decide, by decide, by decide, nofun⟩, ⟨?_, fun _ h => by cases h⟩, Nat.le_of_ble_eq_true rfl,
    ⟨by decide, by decide, by decide, nofun⟩, rfl, rfl⟩
  intro r hr
  rw [List.mem_singleton.mp hr]
  exact Or.inl rfl

end Sys2Proof.Tests
end

section
/-! PROOFS. What leaves the point table alone (R6, R2): every operation of the blocks that are no part of the matrix
controller, and the batch phases that command relays without an acknowledge. From that, and from the few operations that
write the point table, the point law and the scan law. -/

namespace Sys2Proof.Machine

/-! ### States with the same point table -/

/-- `t` has the cards, connections, quarantine and scan of `s`. -/
structure SameTable (s t : State) : Prop where
  cards : t.mxc.cards = s.mxc.cards
  conn : t.mxc.conn = s.mxc.conn
  quar : t.mxc.quar = s.mxc.quar
  scan : t.mxc.scan = s.mxc.scan

/-- `t` has the point table of `s`; and where a scan goes on with no batch in flight, no batch has begun and the reset has
not ended. -/
structure Keeps (s t : State) : Prop extends SameTable s t where
  idle : s.mxc.scan ≠ none → s.mxc.batch = none → t.resetting = s.resetting ∧ t.mxc.batch = none

theorem SameTable.trans {s t u : State} (h : SameTable s t) (g : SameTable t u) : SameTable s u :=
  ⟨g.cards.trans h.cards, g.conn.trans h.conn, g.quar.trans h.quar, g.scan.trans h.scan⟩

theorem Keeps.trans {s t u : State} (h : Keeps s t) (g : Keeps t u) : Keeps s u where
  toSameTable := h.toSameTable.trans g.toSameTable
  idle := fun hs hb => by
    obtain ⟨hr, hb'⟩ := h.idle hs hb
    obtain ⟨gr, gb⟩ := g.idle (h.scan ▸ hs) hb'
    exact ⟨gr.trans hr, gb⟩

theorem Keeps.after {s t u : State} (g : Keeps t u) (h : Keeps s t) : Keeps s u := h.trans g

/-- An operation that changes nothing of the matrix controller but its held requests. -/
theorem Keeps.of_held {s t : State}
    (hm : t.mxc = ⟨s.mxc.cards, s.mxc.conn, s.mxc.quar, s.mxc.scan, t.mxc.held, s.mxc.batch, s.mxc.opens⟩)
    (hr : t.resetting = s.resetting) : Keeps s t :=
  ⟨⟨by rw [hm], by rw [hm], by rw [hm], by rw [hm]⟩, fun _ h => ⟨hr, by rw [hm]; exact h⟩⟩

theorem Keeps.of_mxc {s t : State} (hm : t.mxc = s.mxc) (hr : t.resetting = s.resetting) : Keeps s t :=
  .of_held (by rw [hm]) hr

theorem Keeps.refl (s : State) : Keeps s s := .of_held rfl rfl

theorem SameTable.refl (s : State) : SameTable s s := (Keeps.refl s).toSameTable

theorem SameTable.ite {s a b : State} {c : Prop} [Decidable c] (ha : SameTable s a) (hb : SameTable s b) :
    SameTable s (if c then a else b) := by split <;> assumption

theorem Keeps.ite {s a b : State} {c : Prop} [Decidable c] (ha : Keeps s a) (hb : Keeps s b) :
    Keeps s (if c then a else b) := by split <;> assumption

/-- Where a batch is in flight, or no scan goes on, the same point table is enough. -/
theorem SameTable.keeps {s t : State} (h : SameTable s t) (hf : s.mxc.scan = none ∨ s.mxc.batch ≠ none) : Keeps s t :=
  ⟨h, fun hs hb => absurd hf (not_or.mpr ⟨hs, not_not.mpr hb⟩)⟩

/-! ### Notices, the safety record, windows, high voltage -/

theorem keeps_raise (k : NoticeKind) (p : List Byte) (s : State) : Keeps s (raise k p s) := .of_mxc (by simp) (by simp)

theorem keeps_raiseRun (s : State) : Keeps s (raiseRun s) := keeps_raise _ _ s

theorem keeps_raisePrinter (s : State) : Keeps s (raisePrinter s) := keeps_raise _ _ s

theorem keeps_latchCause (c : Cause) (s : State) : Keeps s (latchCause c s) := by
  obtain ⟨q, hq⟩ := latchCause_spec c s
  rw [hq]; exact .of_held rfl rfl

theorem keeps_addHold (r : HoldReason) (s : State) : Keeps s (addHold r s) := by
  obtain ⟨q, hq⟩ := addHold_spec r s
  rw [hq]; exact .of_held rfl rfl

theorem keeps_addStriking (r : HoldReason) (s : State) : Keeps s (addStriking r s) := by
  obtain ⟨q, hq⟩ := addStriking_spec r s
  rw [hq]; exact .of_held rfl rfl

theorem keeps_releaseWindow (o : Owner) (s : State) : Keeps s (releaseWindow o s) := by
  unfold releaseWindow
  extract_lets first _ s1
  have h1 : Keeps s s1 := .ite (.of_held rfl rfl) (.refl s)
  exact h1.trans (.of_held rfl rfl)

theorem keeps_enterDischarge (s : State) : Keeps s (enterDischarge s) := .of_held rfl rfl

theorem keeps_removeHv (s : State) : Keeps s (removeHv s) := .of_held rfl rfl

theorem keeps_removeIfUp (s : State) : Keeps s (removeIfUp s) := .ite (keeps_removeHv s) (.refl s)

theorem keeps_refuseWaiting (c : HvCause) (s : State) : Keeps s (refuseWaiting c s) := by
  unfold refuseWaiting
  split
  · exact .of_held rfl rfl
  · exact .refl s

/-- A disable request leaves the matrix alone, whatever it answers (R137). -/
theorem keeps_disable {w : Waiter} {s t : State} {a : BusAnswer} (h : disable w s = (a, t)) : Keeps s t := by
  rcases disable_spec w s with ⟨hd, -, -⟩ | ⟨hd, -, -, -⟩ | ⟨t', hd, -, -, hm, -, -, -, -, -, -, -, -, -, -, hr, -, -⟩
  · rw [hd] at h; cases h; exact .refl s
  · rw [hd] at h; cases h; exact .refl s
  · rw [hd] at h; cases h; exact .of_mxc hm hr

/-! ### The run controller and the log -/

theorem keeps_stopEngine (s : State) : Keeps s (stopEngine s) :=
  ((keeps_releaseWindow .cte s).trans (keeps_releaseWindow .wte _)).trans (.of_held rfl rfl)

/-- The abort of a run's batches may end the batch in flight, and begins none (R21). -/
theorem keeps_abortBatches (s : State) : Keeps s (abortBatches s) := by
  unfold abortBatches
  extract_lets _ s1
  have h1 : Keeps s s1 := .of_held rfl rfl
  split
  · exact h1
  · rename_i b hb
    refine .ite h1 (SameTable.keeps ?_ (Or.inr (by rw [show s.mxc.batch = some b from hb]; nofun)))
    exact .ite ⟨rfl, rfl, rfl, rfl⟩ ⟨rfl, rfl, rfl, rfl⟩

theorem keeps_continueRun (s : State) : Keeps s (continueRun s) := by
  unfold continueRun
  extract_lets _ s1
  have h1 : Keeps s s1 := (keeps_raiseRun _).after (.of_held rfl rfl)
  exact .ite (h1.trans (.of_held rfl rfl)) h1

theorem keeps_removeHold (rs : List HoldReason) (s : State) : Keeps s (removeHold rs s) := by
  unfold removeHold
  extract_lets h _ s1
  have h1 : Keeps s s1 := (keeps_raiseRun _).after (.of_held rfl rfl)
  exact .ite (.refl s) (.ite (h1.trans (keeps_continueRun _)) h1)

theorem keeps_enterHeld (s : State) : Keeps s (enterHeld s) := (keeps_raiseRun _).after (.of_held rfl rfl)

theorem keeps_enterEnding (s : State) : Keeps s (enterEnding s) :=
  Keeps.trans (t := raiseRun { s with rnc := { s.rnc with state := .ending } }) ((keeps_raiseRun _).after (.of_held rfl rfl)) (.of_held rfl rfl)

theorem keeps_overrideFault (s : State) : Keeps s (overrideFault s) := .of_held rfl rfl

theorem keeps_endCause (v : Verdict) (why : EndReason) (s : State) : Keeps s (endCause v why s) := by
  unfold endCause
  extract_lets _ s1 _ s2 _ s3 s4
  have h1 : Keeps s s1 := .of_held rfl rfl
  have h2 : Keeps s s2 := .ite h1 ((keeps_raiseRun _).after (h1.trans (.of_held rfl rfl)))
  have h3 : Keeps s s3 := .ite ((keeps_raiseRun _).after (h2.trans (.of_held rfl rfl))) h2
  have h4 : Keeps s s4 :=
    (keeps_abortBatches _).after ((keeps_stopEngine _).after (h3.trans (.of_held rfl rfl)))
  refine .ite (.refl s) ?_
  split
  · rename_i t ht; exact (h4.trans (keeps_disable ht)).trans (keeps_enterEnding _)
  · rename_i t ht; exact ((h4.trans (keeps_disable ht)).trans (keeps_overrideFault _)).trans (keeps_enterEnding _)
  · rename_i t ht; exact h4.trans (keeps_disable ht)

theorem keeps_completeRun (s : State) : Keeps s (completeRun s) := keeps_endCause _ _ s

theorem keeps_enterLog (r : Rec) (s : State) : Keeps s (enterLog r s) := by
  rcases enterLog_spec r s with ⟨-, h⟩ | ⟨-, -, -, h⟩ | ⟨-, -, h⟩ <;> rw [h] <;> exact .of_held rfl rfl

theorem keeps_putRecord (d : Draft) (s : State) : Keeps s (putRecord d s) :=
  (keeps_enterLog _ (countRec d.kind s)).after (.of_held rfl rfl)

theorem keeps_createRecord (d : Draft) (s : State) : Keeps s (createRecord d s) := by
  unfold createRecord
  extract_lets t act
  have ht : Keeps s t := keeps_putRecord d s
  refine .ite (.refl s) (.ite (.ite (ht.trans (keeps_endCause _ _ _)) (ht.trans (keeps_endCause _ _ _))) ?_)
  cases act
  · exact ht
  · exact ht.trans (keeps_addHold _ _)
  · exact ht.trans (keeps_endCause _ _ _)

theorem keeps_createOwn (ds : List Draft) (s : State) : Keeps s (createOwn ds s) := by
  induction ds generalizing s with
  | nil => exact .refl s
  | cons d ds ih => exact .ite (.refl s) ((keeps_putRecord d s).trans (ih _))

theorem keeps_createRecords (ds : List Draft) (s : State) : Keeps s (createRecords ds s) :=
  createRecords_keeps (P := Keeps s) (fun d _ h => h.trans (keeps_createRecord d _)) ds s (.refl s)

theorem keeps_boundaryChecks (k : UnitKind) (s : State) : Keeps s (boundaryChecks k s) := by
  unfold boundaryChecks
  extract_lets s1 s2 s3
  have h1 : Keeps s s1 := .ite (keeps_addHold _ s) (.refl s)
  have h2 : Keeps s s2 := .ite (h1.trans (keeps_addHold _ _)) h1
  have h3 : Keeps s s3 := .ite h2 (h2.trans (keeps_addHold _ _))
  exact .ite h1 (.ite (h3.trans (keeps_addHold _ _)) h3)

/-- A permit asked for leaves the matrix alone, whatever the answer (R97). -/
theorem keeps_permit (k : UnitKind) (s : State) : Keeps s (permit k s).2 := by
  unfold permit
  extract_lets _ _ s1 _ s2
  have h1 : Keeps s s1 := .of_held rfl rfl
  have h2 : Keeps s s2 := h1.trans (keeps_boundaryChecks k s1)
  split
  · exact h1
  · split
    · exact h1.trans (.of_held rfl rfl)
    · split
      · exact h2.trans (.of_held rfl rfl)
      · exact (keeps_enterHeld _).after (h2.trans (.of_held rfl rfl))

theorem keeps_heldAtEnd (s : State) : Keeps s (heldAtEnd s) := by
  rcases heldAtEnd_spec s with ⟨-, h⟩ | ⟨-, -, ⟨-, q, h⟩ | ⟨-, h⟩⟩ <;> rw [h] <;> exact .of_held rfl rfl

theorem keeps_sweep (s : State) : Keeps s (sweep s) := by
  unfold sweep
  extract_lets keep _ s1 _ s2
  have h1 : Keeps s s1 := .of_held rfl rfl
  have h2 : Keeps s s2 := by
    unfold s2
    split
    · exact .ite (h1.trans (.of_held rfl rfl)) h1
    · exact h1
  exact .ite (.refl s) (.ite (h2.trans (keeps_removeHold _ _)) h2)

theorem keeps_clearPrintMarks (s : State) : Keeps s (clearPrintMarks s) :=
  (keeps_sweep _).after (.of_held rfl rfl)

end Sys2Proof.Machine
end

section
/-! PROOFS. No act of the engines writes the point table: the search, the continuity, insulation and watch engines, PROBE,
the measurement unit, and the engine loop. -/

namespace Sys2Proof.Machine

/-! ### The group search -/

theorem keeps_searchTake (s : State) : Keeps s (searchTake s) := by
  unfold searchTake
  split <;> exact .of_held rfl rfl

theorem keeps_searchStart (c : Caller) (cands driven : List Nat) (s : State) :
    Keeps s (searchStart c cands driven s) :=
  .ite (.of_held rfl rfl) (.ite (.of_held rfl rfl) ((keeps_searchTake _).after (.of_held rfl rfl)))

theorem keeps_searchProceed (s : State) : Keeps s (searchProceed s) := by
  unfold searchProceed
  split
  · exact .of_held rfl rfl
  · exact .refl s

theorem keeps_searchPark (s : State) : Keeps s (searchPark s) := .ite (.of_held rfl rfl) (.refl s)

theorem keeps_searchSettled (ok noDrive : Bool) (s : State) : Keeps s (searchSettled ok noDrive s) :=
  .ite (.refl s) (.ite (.of_held rfl rfl) (.ite (.of_held rfl rfl) (.of_held rfl rfl)))

theorem keeps_searchAnswer (a : Answer3) (s : State) : Keeps s (searchAnswer a s) := by
  unfold searchAnswer
  split
  · cases a with
    | negative => exact (keeps_searchTake _).after (.of_held rfl rfl)
    | positive m =>
      exact .ite (.of_held rfl rfl) ((keeps_searchTake _).after (.of_held rfl rfl))
    | notMeasured => exact .of_held rfl rfl
    | abandon => exact .of_held rfl rfl
  · exact .refl s

/-! ### Steps, and the continuity engine -/

theorem keeps_report (p : Nat) (s : State) : Keeps s (report p s) := by
  unfold report
  repeat' split
  all_goals exact .of_held rfl rfl

theorem keeps_reportUntest (p : Nat) (s : State) : Keeps s (reportUntest p s) :=
  .ite (.refl s) ((keeps_report p s).trans (keeps_createRecord _ _))

theorem keeps_startStep (s : State) : Keeps s (startStep s) := by
  unfold startStep
  split
  iterate 3 exact .of_held rfl rfl
  exact keeps_completeRun s

theorem keeps_stepDone (s : State) : Keeps s (stepDone s) :=
  .ite ((keeps_startStep _).after (.of_held rfl rfl)) ((keeps_completeRun _).after (.of_held rfl rfl))

theorem keeps_contNextNet (j : ContJob) (s : State) : Keeps s (contNextNet j s) := by
  unfold contNextNet
  split
  · exact .of_held rfl rfl
  · exact keeps_stepDone s

theorem keeps_contDecide (j : ContJob) (s : State) : Keeps s (contDecide j s) := by
  unfold contDecide
  extract_lets ms us
  split
  · exact .ite (keeps_stepDone s) (.ite (.of_held rfl rfl) (.of_held rfl rfl))
  · split
    · exact .of_held rfl rfl
    · exact .ite ((keeps_searchStart _ _ _ _).after (.of_held rfl rfl)) (keeps_contNextNet j s)
  · exact keeps_contNextNet j s
  · exact .of_held rfl rfl
  · exact keeps_contNextNet j s

theorem keeps_contGranted (j : ContJob) (s : State) : Keeps s (contGranted j s) := by
  unfold contGranted
  split
  · exact .of_held rfl rfl
  · exact .of_held rfl rfl
  · exact .ite (.of_held rfl rfl) (.of_held rfl rfl)
  · exact keeps_searchProceed s
  · exact .refl s

theorem keeps_pairSettled (anchorLost memberLost : Bool) (j : ContJob) (s : State) :
    Keeps s (pairSettled anchorLost memberLost j s) :=
  .ite (.ite (.of_held rfl rfl) (.of_held rfl rfl)) (.ite (.of_held rfl rfl) (.of_held rfl rfl))

theorem keeps_contVerdict (v : Option SampleClass) (m : Meas) (j : ContJob) (s : State) :
    Keeps s (contVerdict v m j s) := .of_held rfl rfl

theorem keeps_zeroDecide (j : ZeroJob) (s : State) : Keeps s (zeroDecide j s) := by
  unfold zeroDecide
  split
  · exact .of_held rfl rfl
  · exact (keeps_completeRun _).after (.of_held rfl rfl)

theorem keeps_zeroGranted (j : ZeroJob) (s : State) : Keeps s (zeroGranted j s) := .of_held rfl rfl

theorem keeps_zeroSettled (refLost pointLost : Bool) (j : ZeroJob) (s : State) :
    Keeps s (zeroSettled refLost pointLost j s) :=
  .ite (keeps_completeRun s) (.ite (.of_held rfl rfl) (.of_held rfl rfl))

theorem keeps_zeroVerdict (v : Option SampleClass) (r : Option Nat) (m : Meas) (j : ZeroJob) (s : State) :
    Keeps s (zeroVerdict v r m j s) := by
  unfold zeroVerdict
  split <;> exact .of_held rfl rfl

theorem keeps_learnDecide (j : LearnJob) (s : State) : Keeps s (learnDecide j s) := by
  unfold learnDecide
  split
  · exact (keeps_searchStart _ _ _ _).after (.of_held rfl rfl)
  · exact (keeps_completeRun _).after (.of_held rfl rfl)

theorem keeps_learnFound (q : Nat) (j : LearnJob) (s : State) : Keeps s (learnFound q j s) := by
  unfold learnFound
  split
  · exact .of_held rfl rfl
  · exact .ite (.of_held rfl rfl) (keeps_endCause _ _ s)

theorem keeps_cteWindow (s : State) : Keeps s (cteWindow s) := by
  unfold cteWindow
  repeat' split
  all_goals exact .of_held rfl rfl

theorem keeps_changeRange (r : CRange) (s : State) : Keeps s (changeRange r s) := .of_held rfl rfl

theorem keeps_groupSample (f : Filter) (threshold n : Nat) (r : Option Nat) (store : Filter → State → State) (s : State)
    (hstore : ∀ g t, Keeps t (store g t)) : Keeps s (groupSample f threshold n r store s) := by
  unfold groupSample
  refine .ite (.refl s) ?_
  split
  rename_i g ans _
  cases ans with
  | none => exact hstore g s
  | some a => exact Keeps.trans ((keeps_releaseWindow .cte _).after (hstore g s)) (.of_held rfl rfl)

theorem keeps_cteSample (r : Option Nat) (s : State) : Keeps s (cteSample r s) := by
  unfold cteSample
  extract_lets range
  split
  · exact .refl s
  · refine .ite (keeps_groupSample _ _ _ _ _ _ fun _ _ => .of_held rfl rfl) (.ite (.refl s) ?_)
    split
    · exact .of_held rfl rfl
    · extract_lets f j'
      split
      · exact (keeps_contVerdict _ _ _ _).after (keeps_releaseWindow _ s)
      · exact (keeps_contVerdict _ _ _ _).after (keeps_releaseWindow _ s)
      · exact .of_held rfl rfl
  · refine .ite (.refl s) ?_
    extract_lets f j'
    split
    · exact (keeps_zeroVerdict _ _ _ _ _).after (keeps_releaseWindow _ s)
    · exact (keeps_zeroVerdict _ _ _ _ _).after (keeps_releaseWindow _ s)
    · exact .of_held rfl rfl
  · exact keeps_groupSample _ _ _ _ _ _ fun _ _ => .of_held rfl rfl

theorem keeps_cteWindowLost (s : State) : Keeps s (cteWindowLost s) := by
  unfold cteWindowLost
  repeat' split
  all_goals exact .of_held rfl rfl

theorem keeps_cteDecide (s : State) : Keeps s (cteDecide s) := by
  unfold cteDecide
  split
  · exact .refl s
  · exact keeps_contDecide _ s
  · exact keeps_zeroDecide _ s
  · exact keeps_learnDecide _ s

theorem keeps_cteGranted (s : State) : Keeps s (cteGranted s) := by
  unfold cteGranted
  split
  · exact .refl s
  · exact keeps_contGranted _ s
  · exact keeps_zeroGranted _ s
  · exact keeps_searchProceed s

theorem keeps_cteParked (s : State) : Keeps s (cteParked s) := by
  unfold cteParked
  split
  · exact .refl s
  · exact .ite (keeps_searchPark s) (.of_held rfl rfl)
  · exact .of_held rfl rfl
  · exact keeps_searchPark s

theorem keeps_cteFound (q : Nat) (m : Meas) (s : State) : Keeps s (cteFound q m s) := by
  unfold cteFound
  split
  · exact .of_held rfl rfl
  · exact keeps_learnFound q _ s
  · exact .refl s

theorem keeps_cteSearchEnded (s : State) : Keeps s (cteSearchEnded s) := by
  unfold cteSearchEnded
  split
  · exact keeps_contNextNet _ s
  · exact .of_held rfl rfl
  · exact .refl s

/-! ### The insulation engine -/

theorem keeps_insulNextNet (j : InsulJob) (s : State) : Keeps s (insulNextNet j s) := by
  unfold insulNextNet
  split
  · exact .of_held rfl rfl
  · exact keeps_stepDone s

theorem keeps_insulDecide (j : InsulJob) (s : State) : Keeps s (insulDecide j s) := by
  unfold insulDecide
  split
  · extract_lets cands ms
    exact .ite (keeps_stepDone s) (.ite (keeps_insulNextNet j s) (.ite (.of_held rfl rfl) (.of_held rfl rfl)))
  · exact keeps_insulNextNet j s
  all_goals exact .of_held rfl rfl

theorem keeps_insulGranted (j : InsulJob) (s : State) : Keeps s (insulGranted j s) := by
  unfold insulGranted
  split
  case h_4 => exact keeps_searchProceed s
  all_goals exact .of_held rfl rfl

theorem keeps_insulParked (j : InsulJob) (s : State) : Keeps s (insulParked j s) :=
  .ite (keeps_searchPark s) (.of_held rfl rfl)

theorem keeps_insulSettled (j : InsulJob) (s : State) : Keeps s (insulSettled j s) := by
  unfold insulSettled
  split
  · exact .of_held rfl rfl
  · exact keeps_insulNextNet j s

theorem keeps_insulRefused (j : InsulJob) (s : State) : Keeps s (insulRefused j s) := by
  unfold insulRefused
  split <;> exact .of_held rfl rfl

theorem keeps_fixLowIr (m : Meas) (j : InsulJob) (s : State) : Keeps s (fixLowIr m j s) := .of_held rfl rfl

theorem keeps_fixPass (j : InsulJob) (s : State) : Keeps s (fixPass j s) := .of_held rfl rfl

theorem keeps_rampReading (v : Nat) (rd : Reading) (j : InsulJob) (s : State) : Keeps s (rampReading v rd j s) := by
  unfold rampReading
  refine .ite (.of_held rfl rfl) ?_
  cases rd
  · exact .of_held rfl rfl
  · exact (keeps_fixLowIr _ j _).after (.of_held rfl rfl)

theorem keeps_dwellReading (rd : Reading) (j : InsulJob) (s : State) : Keeps s (dwellReading rd j s) := by
  unfold dwellReading
  split
  · exact keeps_fixLowIr _ _ s
  · exact .ite (keeps_fixPass _ s) (.of_held rfl rfl)

theorem keeps_insulReadingIn (v : Nat) (rd : Reading) (j : InsulJob) (s : State) :
    Keeps s (insulReadingIn v rd j s) := by
  unfold insulReadingIn
  refine .ite (.refl s) ?_
  split
  · exact .ite (keeps_rampReading v rd j s) (.refl s)
  · exact keeps_dwellReading rd j s
  · exact .refl s

theorem keeps_insulTrip (s : State) : Keeps s (insulTrip s) := by
  unfold insulTrip
  repeat' split
  all_goals exact .of_held rfl rfl

theorem keeps_insulArc (s : State) : Keeps s (insulArc s) := by
  unfold insulArc
  repeat' split
  all_goals exact .of_held rfl rfl

theorem keeps_startLocalise (j : InsulJob) (s : State) : Keeps s (startLocalise j s) :=
  .ite (.of_held rfl rfl) ((keeps_searchStart _ _ _ _).after (.of_held rfl rfl))

theorem keeps_insulSafe (j : InsulJob) (s : State) : Keeps s (insulSafe j s) := by
  unfold insulSafe
  split
  · exact .of_held rfl rfl
  · split
    · exact .of_held rfl rfl
    · exact .ite (keeps_startLocalise j s) (keeps_insulNextNet j s)
    · exact keeps_insulNextNet j s
  · exact .refl s

theorem keeps_insulSearchEnded (e : SearchEnd) (found : Nat) (j : InsulJob) (s : State) :
    Keeps s (insulSearchEnded e found j s) := .ite (.of_held rfl rfl) (keeps_insulNextNet j s)

theorem keeps_hvRequest (e : Energ) (s : State) : Keeps s (hvRequest e s) := by
  unfold hvRequest
  refine .ite (.of_held rfl rfl) ?_
  split <;> exact .of_held rfl rfl

theorem keeps_iseEnergise (s : State) : Keeps s (iseEnergise s) := by
  unfold iseEnergise
  split
  · exact (keeps_hvRequest _ _).after (.of_held rfl rfl)
  · exact .refl s

/-! ### The watch engine -/

theorem keeps_moveCursor (i : Nat) (j : WatchJob) (s : State) : Keeps s (moveCursor i j s) := .of_held rfl rfl

theorem keeps_beginClosing (j : WatchJob) (s : State) : Keeps s (beginClosing j s) :=
  (keeps_releaseWindow .wte s).trans (.of_held rfl rfl)

theorem keeps_watchDecide (j : WatchJob) (s : State) : Keeps s (watchDecide j s) := by
  unfold watchDecide
  split
  · refine .ite (keeps_beginClosing j s) ?_
    split
    · exact keeps_beginClosing j s
    · extract_lets j' p usable s1
      have h1 : Keeps s s1 := .ite (.refl s) (keeps_releaseWindow .wte s)
      exact h1.trans (.of_held rfl rfl)
  · split
    · refine (keeps_stepDone _).after ?_
      split
      · exact keeps_moveCursor _ _ s
      · exact .refl s
    · exact .of_held rfl rfl

theorem keeps_watchGranted (j : WatchJob) (s : State) : Keeps s (watchGranted j s) := by
  unfold watchGranted
  split
  · exact .ite (.of_held rfl rfl) (.of_held rfl rfl)
  · exact .of_held rfl rfl
  · split <;> exact .of_held rfl rfl

theorem keeps_watchParked (j : WatchJob) (s : State) : Keeps s (watchParked j s) :=
  (keeps_releaseWindow .wte s).trans (.of_held rfl rfl)

theorem keeps_watchSettled (bad : Bool) (j : WatchJob) (s : State) : Keeps s (watchSettled bad j s) :=
  .ite ((keeps_releaseWindow .wte s).trans (.of_held rfl rfl)) (.ite (.of_held rfl rfl) (.of_held rfl rfl))

theorem keeps_pairUntest (j : WatchJob) (s : State) : Keeps s (pairUntest j s) :=
  (keeps_createRecord _ _).after (Keeps.trans (keeps_releaseWindow .wte s) (.of_held rfl rfl))

theorem keeps_wteSample (r : Option Nat) (s : State) : Keeps s (wteSample r s) := by
  unfold wteSample
  split
  · refine .ite (.refl s) ?_
    extract_lets old
    split
    extract_lets j1 j2 keep s1 acts
    have h1 : Keeps s s1 := .ite (.refl s) (keeps_releaseWindow .wte s)
    exact h1.trans (.of_held rfl rfl)
  · exact .refl s

theorem keeps_wteWindowLost (s : State) : Keeps s (wteWindowLost s) := by
  unfold wteWindowLost
  repeat' split
  all_goals exact .of_held rfl rfl

/-! ### PROBE and the measurement unit -/

theorem keeps_probeStart (a b : Nat) (sel : RangeSel) (s : State) : Keeps s (probeStart a b sel s) := .of_held rfl rfl

theorem keeps_probeOff (p : Probe) (s : State) : Keeps s (probeOff p s) :=
  Keeps.trans ((keeps_releaseWindow .probe { s with probe := some p }).after (.of_held rfl rfl)) (.of_held rfl rfl)

theorem keeps_probeSettled (res : BatchResult) (excl : List Excl) (s : State) :
    Keeps s (probeSettled res excl s) := by
  unfold probeSettled
  split
  · exact .refl s
  · cases res
    · exact .ite (keeps_probeOff _ s) (.of_held rfl rfl)
    all_goals exact keeps_probeOff _ s

theorem keeps_probeSample (r : Option Nat) (raw : Word16) (s : State) : Keeps s (probeSample r raw s) := by
  unfold probeSample
  split
  · exact .refl s
  · extract_lets range
    split
    · exact keeps_changeRange _ s
    · exact keeps_probeOff _ s

theorem keeps_probeWindowLost (s : State) : Keeps s (probeWindowLost s) := by
  unfold probeWindowLost
  split
  · exact .refl s
  · exact keeps_probeOff _ s

theorem keeps_probeDone (s : State) : Keeps s (probeDone s) := by
  unfold probeDone
  split <;> exact .of_held rfl rfl

theorem keeps_windowLost (o : Owner) (s : State) : Keeps s (windowLost o s) := by
  cases o
  · exact keeps_cteWindowLost s
  · exact keeps_wteWindowLost s
  · exact keeps_probeWindowLost s

theorem keeps_closeGate (s : State) : Keeps s (closeGate s) := by
  unfold closeGate
  split
  · exact (keeps_windowLost _ _).after (.of_held rfl rfl)
  · exact .refl s

theorem keeps_openFirst (s : State) : Keeps s (openFirst s) := by
  unfold openFirst
  split <;> exact .of_held rfl rfl

theorem keeps_windowUnsafe (s : State) : Keeps s (windowUnsafe s) := by
  unfold windowUnsafe
  split
  · exact .of_held rfl rfl
  · exact (keeps_windowLost _ _).after (.of_held rfl rfl)

theorem keeps_windowSafe (s : State) : Keeps s (windowSafe s) :=
  .ite (.of_held rfl rfl) ((keeps_openFirst _).after (.of_held rfl rfl))

theorem keeps_windowTake (s : State) : Keeps s (windowTake s) := by
  unfold windowTake
  refine .ite (.refl s) (.ite (keeps_openFirst s) ?_)
  split
  · rename_i t ht; exact (keeps_disable ht).trans (keeps_openFirst t)
  · rename_i t ht; exact (keeps_disable ht).trans (keeps_windowUnsafe t)
  · rename_i t ht; exact (keeps_disable ht).trans (.of_held rfl rfl)

theorem keeps_sampleIn (raw : Word16) (s : State) : Keeps s (sampleIn raw s) := by
  unfold sampleIn
  split
  · refine .ite ?_ (.refl s)
    extract_lets r
    split
    · exact keeps_cteSample r s
    · exact keeps_wteSample r s
    · exact keeps_probeSample r raw s
  · exact .refl s

theorem keeps_insulationIn (leak hvm : Word16) (s : State) : Keeps s (insulationIn leak hvm s) := by
  unfold insulationIn
  refine .ite ?_ (.refl s)
  split
  extract_lets _ s1
  have h1 : Keeps s s1 := .of_held rfl rfl
  split
  · exact h1.trans (keeps_insulReadingIn _ _ _ _)
  · exact h1

/-! ### The engine at work -/

theorem keeps_engineDecide (s : State) : Keeps s (engineDecide s) := by
  unfold engineDecide
  split
  · exact keeps_insulDecide _ s
  · exact keeps_watchDecide _ s
  · exact keeps_cteDecide s

theorem keeps_granted (s : State) : Keeps s (granted s) := by
  unfold granted
  split
  · exact keeps_insulGranted _ s
  · exact keeps_watchGranted _ s
  · exact keeps_cteGranted s

theorem keeps_parked (s : State) : Keeps s (parked s) := by
  unfold parked
  split
  · exact keeps_insulParked _ s
  · exact keeps_watchParked _ s
  · exact keeps_cteParked s

theorem keeps_askPermit (s : State) : Keeps s (askPermit s) := by
  have hp : Keeps s (permit (askKind s) (heldAtEnd s)).2 := (keeps_heldAtEnd s).trans (keeps_permit _ _)
  unfold askPermit
  split <;> rename_i t ht <;> rw [ht] at hp
  · exact hp.trans (keeps_granted t)
  · exact hp.trans (keeps_parked t)
  · exact hp.trans (keeps_stopEngine t)

theorem keeps_engineWindow (s : State) : Keeps s (engineWindow s) := by
  unfold engineWindow
  split
  · exact .of_held rfl rfl
  · exact keeps_cteWindow s

/-- No act of an engine writes the point table, begins a batch or ends a reset. -/
theorem keeps_runAct (a : Act) (s : State) : Keeps s (runAct a s) := by
  cases a with
  | decide => exact keeps_engineDecide s
  | ask => exact keeps_askPermit s
  | record d => exact keeps_createRecord d s
  | untest p => exact keeps_reportUntest p s
  | pairUntest => dsimp only [runAct]; split; exacts [keeps_pairUntest _ s, .refl s]
  | window => exact keeps_engineWindow s
  | energise => exact keeps_iseEnergise s
  | pairSettled al ml => dsimp only [runAct]; split; exacts [keeps_pairSettled _ _ _ s, .refl s]
  | zeroSettled rl pl => dsimp only [runAct]; split; exacts [keeps_zeroSettled _ _ _ s, .refl s]
  | watchAdvance => dsimp only [runAct]; split; exacts [.of_held rfl rfl, .refl s]
  | watchSettled bad => dsimp only [runAct]; split; exacts [keeps_watchSettled _ _ s, .refl s]
  | insulSettled => dsimp only [runAct]; split; exacts [keeps_insulSettled _ s, .refl s]
  | searchSettled ok nd => exact keeps_searchSettled _ _ s
  | searchNext => exact keeps_searchTake s
  | searchAnswer ans => exact keeps_searchAnswer _ s
  | found q pos m => dsimp only [runAct]; split; exacts [.of_held rfl rfl, keeps_cteFound _ _ s]
  | searchEnded e n => dsimp only [runAct]; split; exacts [keeps_insulSearchEnded _ _ _ s, keeps_cteSearchEnded s]
  | insulSafe => dsimp only [runAct]; split; exacts [keeps_insulSafe _ s, .refl s]
  | insulRefused c => dsimp only [runAct]; split; exacts [keeps_insulRefused _ s, .refl s]

/-- Nor does the engines' work within a command. -/
theorem keeps_pump (n : Nat) (s : State) : Keeps s (pump n s) :=
  pump_keeps (P := Keeps s)
    (fun a _ _ _ h => (keeps_runAct a _).after (h.trans (.of_held rfl rfl))) n s (.refl s)

end Sys2Proof.Machine
end

section
/-! PROOFS. Nor do the print engine, the phases of a batch, the high-voltage controller and the host line. -/

namespace Sys2Proof.Machine

/-! ### The print engine -/

theorem keeps_setPre (st : PreState) (s : State) : Keeps s (setPre st s) :=
  .ite (.refl s) ((keeps_raisePrinter _).after (.of_held rfl rfl))

theorem keeps_disableNow (s : State) : Keeps s (disableNow s) :=
  (keeps_setPre .disabled _).after
    (((keeps_clearPrintMarks { s with pre := { s.pre with line := none, inPrint := none, busyTimer := false } }).after
      (.of_held rfl rfl)).trans (.of_held rfl rfl))

theorem keeps_haltedOr (st : PreState) (s : State) : Keeps s (haltedOr st s) := by
  unfold haltedOr
  extract_lets _ s1
  have h1 : Keeps s s1 := (keeps_setPre st _).after (.of_held rfl rfl)
  exact .ite (h1.trans (keeps_disableNow _)) h1

theorem keeps_boundary (s : State) : Keeps s (boundary s) := by
  unfold boundary
  repeat' split
  · exact .refl s
  · exact keeps_haltedOr _ s
  · exact (keeps_setPre _ _).after (.of_held rfl rfl)
  · exact (keeps_setPre _ s).trans (.of_held rfl rfl)
  · exact .refl s

theorem keeps_beginLine (k : LineKind) (slot : Nat) (text : List Byte) (s : State) :
    Keeps s (beginLine k slot text s) :=
  (keeps_boundary _).after ((keeps_setPre .printing _).after (.of_held rfl rfl))

theorem keeps_decidePrint (s : State) : Keeps s (decidePrint s) := by
  unfold decidePrint
  split
  · exact keeps_setPre _ s
  · refine .ite (keeps_beginLine _ _ _ s) ?_
    split
    · exact .ite ((keeps_beginLine _ _ _ _).after (.of_held rfl rfl))
        ((keeps_beginLine _ _ _ _).after (.of_held rfl rfl))
    · split
      · exact .ite (keeps_beginLine _ _ _ s) (keeps_setPre _ s)
      · exact keeps_setPre _ s

theorem keeps_wakePrint (s : State) : Keeps s (wakePrint s) := .ite (keeps_decidePrint s) (.refl s)

theorem keeps_headerDone (s : State) : Keeps s (headerDone s) := (keeps_decidePrint _).after (.of_held rfl rfl)

theorem keeps_printTaken (s : State) : Keeps s (printTaken s) := (keeps_sweep _).after (.of_held rfl rfl)

theorem keeps_afterLine (k : LineKind) (s : State) : Keeps s (afterLine k s) := by
  unfold afterLine
  split
  · exact keeps_setPre _ s
  · split
    · exact .ite (keeps_beginLine _ _ _ s) (.ite (keeps_beginLine _ _ _ s) (keeps_headerDone s))
    · exact .ite (keeps_beginLine _ _ _ s) (keeps_headerDone s)
    · exact keeps_headerDone s
    · split
      · exact (keeps_beginLine _ _ _ _).after (.of_held rfl rfl)
      · exact keeps_decidePrint s
    · exact (keeps_printTaken s).trans (keeps_decidePrint _)
    · split
      · exact keeps_beginLine _ _ _ s
      · exact (keeps_decidePrint _).after (.of_held rfl rfl)
    · exact keeps_setPre _ s

theorem keeps_lineEnded (l : Line) (s : State) : Keeps s (lineEnded l s) := by
  unfold lineEnded
  extract_lets _ s1
  have h1 : Keeps s s1 := .of_held rfl rfl
  refine .ite ((keeps_disableNow _).after (h1.trans ?_)) (h1.trans (keeps_afterLine _ s1))
  exact .ite (keeps_printTaken s1) (.refl s1)

theorem keeps_claimSlot (k : RunKind) (uncal : Bool) (s : State) : Keeps s (claimSlot k uncal s) := .of_held rfl rfl

theorem keeps_runEnded (s : State) : Keeps s (runEnded s) := (keeps_raiseRun _).after (.of_held rfl rfl)

theorem keeps_cancelDone (s : State) : Keeps s (cancelDone s) :=
  .ite (keeps_disableNow s) ((keeps_setPre .idle _).after (.of_held rfl rfl))

theorem keeps_cancelPrint (s : State) : Keeps s (cancelPrint s) := by
  unfold cancelPrint
  extract_lets _ s1 _ s2
  have h1 : Keeps s s1 := (keeps_clearPrintMarks _).after (.of_held rfl rfl)
  have h2 : Keeps s s2 := h1.trans (.of_held rfl rfl)
  split
  · exact h2.trans (keeps_cancelDone _)
  · exact .ite (.ite (h2.trans (keeps_cancelDone _)) h2)
      (.ite (h2.trans (.of_held rfl rfl)) (h2.trans (keeps_cancelDone _)))

theorem keeps_setEnable (on : Bool) (s : State) : Keeps s (setEnable on s) := by
  unfold setEnable
  split
  · exact (keeps_setPre _ _).after (.of_held rfl rfl)
  · exact .of_held rfl rfl
  · exact .refl s
  · exact .of_held rfl rfl
  · exact keeps_disableNow s

theorem keeps_charGone (busy : Bool) (s : State) : Keeps s (charGone busy s) := by
  unfold charGone
  extract_lets _ s1 _ s2
  have h2 : Keeps s s2 := .of_held rfl rfl
  split
  · exact .of_held rfl rfl
  · split
    · exact h2
    · exact .ite (h2.trans (keeps_lineEnded _ _)) (h2.trans (keeps_boundary _))

theorem keeps_paperChanged (present busy : Bool) (s : State) : Keeps s (paperChanged present busy s) := by
  unfold paperChanged
  extract_lets _ s1
  have h1 : Keeps s s1 := .of_held rfl rfl
  exact .ite (.ite (.ite (h1.trans (keeps_boundary _)) h1) (.ite (h1.trans (keeps_haltedOr _ _)) h1)) h1

theorem keeps_busyFell (s : State) : Keeps s (busyFell s) := by
  unfold busyFell
  extract_lets _ s1
  have h1 : Keeps s s1 := .of_held rfl rfl
  exact .ite (h1.trans (keeps_boundary _)) h1

theorem keeps_busyOut (s : State) : Keeps s (busyOut s) := .ite (keeps_haltedOr _ s) (.refl s)

/-! ### Batches: no phase writes the point table but by an acknowledge or a readback -/

theorem sameTable_resetComplete (s : State) : SameTable s (resetComplete s) := by
  unfold resetComplete
  split
  · exact .refl s
  · rename_i r _
    extract_lets s1 byRequest s2 _ s3
    have h1 : SameTable s s1 := ⟨rfl, rfl, rfl, rfl⟩
    have h2 : SameTable s s2 := by
      unfold s2
      split <;> exact h1.trans ⟨rfl, rfl, rfl, rfl⟩
    have h3 : SameTable s s3 := .ite (h2.trans ⟨rfl, rfl, rfl, rfl⟩) h2
    exact .ite (h3.trans (keeps_raisePrinter _).toSameTable) h3

theorem keeps_engineSettled (who : Requester) (res : BatchResult) (excl : List Excl) (faults : List MFault) (s : State) :
    Keeps s (engineSettled who res excl faults s) := by
  unfold engineSettled
  refine .ite (.refl s) ?_
  split
  · exact .of_held rfl rfl
  · exact (keeps_createOwn _ s).trans (keeps_endCause _ _ _)
  · exact .ite ((keeps_createRecords _ s).trans (.of_held rfl rfl)) (keeps_createRecords _ s)
  · exact .refl s

theorem sameTable_deliver (who : Requester) (res : BatchResult) (excl : List Excl) (faults : List MFault) (s : State) :
    SameTable s (deliver who res excl faults s) := by
  cases who with
  | reset => exact sameTable_resetComplete s
  | teardown => exact .ite (keeps_runEnded s).toSameTable (.refl s)
  | probeOn => exact (keeps_probeSettled res excl s).toSameTable
  | probeOff => exact (keeps_probeDone s).toSameTable
  | _ => exact (keeps_engineSettled _ res excl faults s).toSameTable

theorem sameTable_setBatch (b : Batch) (s : State) : SameTable s (setBatch b s) := ⟨rfl, rfl, rfl, rfl⟩

theorem sameTable_settle (res : BatchResult) (b : Batch) (s : State) : SameTable s (settle res b s) :=
  SameTable.trans (t := { s with mxc := { s.mxc with batch := none } }) ⟨rfl, rfl, rfl, rfl⟩
    (sameTable_deliver _ _ _ _ _)

theorem sameTable_beginReadback (b : Batch) (s : State) : SameTable s (beginReadback b s) :=
  .ite (sameTable_settle _ b s) (sameTable_setBatch _ s)

theorem sameTable_beginClose (b : Batch) (s : State) : SameTable s (beginClose b s) :=
  .ite (sameTable_beginReadback b s) (.ite (sameTable_beginReadback b s) (sameTable_setBatch _ s))

theorem sameTable_beginOpen (b : Batch) (s : State) : SameTable s (beginOpen b s) :=
  .ite (sameTable_beginClose b s) (sameTable_setBatch _ s)

theorem sameTable_phaseDone (b : Batch) (s : State) : SameTable s (phaseDone b s) := by
  unfold phaseDone
  extract_lets opening
  split
  · exact .ite (sameTable_beginClose b s) (sameTable_beginReadback b s)
  · exact sameTable_setBatch _ s

theorem sameTable_readDone (slot : Nat) (b : Batch) (s : State) : SameTable s (readDone slot b s) :=
  .ite (sameTable_settle _ b s) (sameTable_setBatch _ s)

theorem sameTable_goOnWithout (slot : Nat) (b : Batch) (s : State) : SameTable s (goOnWithout slot b s) :=
  .ite (sameTable_readDone slot b s) (.ite (sameTable_phaseDone _ s) (sameTable_setBatch _ s))

theorem sameTable_precondition (b : Batch) (s : State) : SameTable s (precondition b s) := by
  unfold precondition
  extract_lets s1
  have h1 : SameTable s s1 := (keeps_closeGate s).toSameTable
  refine .ite (h1.trans (sameTable_beginOpen b _)) ?_
  split <;> rename_i t ht <;> have h2 := h1.trans (keeps_disable ht).toSameTable
  · exact h2.trans (sameTable_beginOpen b t)
  · exact h2.trans (sameTable_settle _ b t)
  · exact h2.trans (sameTable_setBatch b t)

theorem sameTable_takeBatch (r : BatchReq) (s : State) : SameTable s (takeBatch r s) :=
  .ite (sameTable_settle _ _ s) (.ite (sameTable_settle _ _ s) (sameTable_precondition _ s))

theorem keeps_takeHeld (n : Nat) (s : State) : Keeps s (takeHeld n s) := by
  induction n generalizing s with
  | zero => exact .refl s
  | succ n ih =>
    unfold takeHeld
    split
    · exact .refl s
    · rename_i hc
      split
      · exact .refl s
      · rename_i r rs _
        refine Keeps.trans (t := takeBatch r { s with mxc := { s.mxc with held := rs } }) ?_ (ih _)
        refine SameTable.keeps ?_ (Or.inl (by simpa using (by simpa using hc : _ ∧ _).1))
        exact SameTable.trans (t := { s with mxc := { s.mxc with held := rs } }) ⟨rfl, rfl, rfl, rfl⟩
          (sameTable_takeBatch r _)

theorem keeps_takeAfterSettle (before s : State) : Keeps s (takeAfterSettle before s) :=
  .ite (keeps_takeHeld _ s) (.refl s)

theorem keeps_waitEnd (which : BatchPhase) (s : State) : Keeps s (waitEnd which s) := by
  unfold waitEnd
  split
  · exact .refl s
  · rename_i b hb
    have hf : s.mxc.scan = none ∨ s.mxc.batch ≠ none := Or.inr (by rw [hb]; nofun)
    refine .ite (.refl s) ?_
    cases which
    case openWait => exact (sameTable_beginClose b s).keeps hf
    case closeWait => exact (sameTable_beginReadback b s).keeps hf
    all_goals exact .refl s

theorem keeps_batchSafe (s : State) : Keeps s (batchSafe s) := by
  unfold batchSafe
  split
  · rename_i b hb
    exact .ite (((keeps_closeGate s).toSameTable.trans (sameTable_beginOpen b _)).keeps (Or.inr (by rw [hb]; nofun)))
      (.refl s)
  · exact .refl s

theorem keeps_batchFault (s : State) : Keeps s (batchFault s) := by
  unfold batchFault
  split
  · rename_i b hb
    exact .ite ((sameTable_settle _ b s).keeps (Or.inr (by rw [hb]; nofun))) (.refl s)
  · exact .refl s

/-! ### High voltage -/

theorem keeps_energisationTake (s : State) : Keeps s (energisationTake s) := by
  unfold energisationTake
  split
  · exact .refl s
  · refine .ite (.refl s) ?_
    extract_lets _ s1
    have h1 : Keeps s s1 := (keeps_closeGate _).after (.of_held rfl rfl)
    split
    · exact h1.trans (.of_held rfl rfl)
    · exact h1.trans (.of_held rfl rfl)

theorem keeps_rampTick (s : State) : Keeps s (rampTick s) := .ite (.of_held rfl rfl) (.refl s)

theorem keeps_rampCheck (s : State) : Keeps s (rampCheck s) := by
  unfold rampCheck
  refine .ite ?_ (.refl s)
  extract_lets
  split <;> exact .of_held rfl rfl

theorem keeps_dwellTick (s : State) : Keeps s (dwellTick s) := by
  unfold dwellTick
  refine .ite ?_ (.refl s)
  extract_lets
  split <;> exact .of_held rfl rfl

theorem keeps_dwellTimeOut (s : State) : Keeps s (dwellTimeOut s) := by
  unfold dwellTimeOut
  refine .ite ?_ (.refl s)
  extract_lets
  split
  · exact .ite (.of_held rfl rfl) (.ite (.of_held rfl rfl) ((keeps_fixPass _ _).after (.of_held rfl rfl)))
  · exact .of_held rfl rfl

theorem keeps_trip (s : State) : Keeps s (trip s) :=
  (keeps_insulTrip _).after ((keeps_latchCause .trip _).after
    (Keeps.trans (keeps_enterDischarge s) (.of_held rfl rfl)))

theorem keeps_fastReading (nanoamps : Nat) (s : State) : Keeps s (fastReading nanoamps s) := by
  unfold fastReading
  extract_lets pa before s1 _ s2
  have h1 : Keeps s s1 := .of_held rfl rfl
  have h2 : Keeps s s2 := h1.trans (.of_held rfl rfl)
  exact .ite (.refl s) (.ite (h1.trans (keeps_trip _))
    (.ite (.ite (h2.trans ((keeps_enterDischarge s2).trans (keeps_insulArc _))) h2) h1))

theorem keeps_answerSafe (s : State) (w : Waiter) : Keeps s (answerSafe s w) := by
  cases w
  · exact keeps_batchSafe s
  · exact keeps_windowSafe s
  · exact keeps_enterEnding s

theorem keeps_answerFault (s : State) (w : Waiter) : Keeps s (answerFault s w) := by
  cases w
  · exact keeps_batchFault s
  · exact keeps_windowUnsafe s
  · exact (keeps_overrideFault s).trans (keeps_enterEnding _)

/-- What the answer to each waiter keeps, the answers to all keep. -/
theorem keeps_foldl {f : State → Waiter → State} (hf : ∀ s w, Keeps s (f s w)) (ws : List Waiter) (s : State) :
    Keeps s (ws.foldl f s) := by
  induction ws generalizing s with
  | nil => exact .refl s
  | cons w ws ih => exact (hf s w).trans (ih _)

theorem keeps_busSafe (s : State) : Keeps s (busSafe s) := by
  unfold busSafe
  extract_lets waiters energised _ s1 s2
  have h1 : Keeps s s1 := .of_held rfl rfl
  have h2 : Keeps s s2 := by
    refine .ite ?_ h1
    split
    · exact h1.trans (.of_held rfl rfl)
    · exact h1
  exact h2.trans (keeps_foldl keeps_answerSafe _ _)

theorem keeps_clockTick (s : State) : Keeps s (clockTick s) := .ite (.of_held rfl rfl) (.refl s)

theorem keeps_busReading (raw : Word16) (s : State) : Keeps s (busReading raw s) := by
  unfold busReading
  extract_lets s1 _ s2
  have h2 : Keeps s s2 := Keeps.trans (keeps_clockTick s) (.of_held rfl rfl)
  exact .ite (h2.trans (keeps_busSafe _)) h2

theorem keeps_dischargeFault (s : State) : Keeps s (dischargeFault s) := by
  unfold dischargeFault
  extract_lets waiters energised _ s1 _ s2 s3
  have h1 : Keeps s s1 := (keeps_latchCause _ _).after (.of_held rfl rfl)
  have h2 : Keeps s s2 := h1.trans (.of_held rfl rfl)
  have h3 : Keeps s s3 := by
    refine .ite ?_ h2
    split
    · exact h2.trans (keeps_createOwn _ _)
    · exact h2
  exact .ite ((h3.trans (keeps_foldl keeps_answerFault _ _)).trans (keeps_endCause _ _ _)) (.refl s)

theorem keeps_guardOpened (s : State) : Keeps s (guardOpened s) := by
  unfold guardOpened
  extract_lets _ s1 s2
  have h1 : Keeps s s1 := (keeps_latchCause _ _).after (.of_held rfl rfl)
  have h2 : Keeps s s2 := (keeps_refuseWaiting _ _).after (h1.trans (keeps_removeIfUp _))
  exact .ite (.ite (h2.trans (keeps_addStriking _ _)) h2) (.refl s)

theorem keeps_linkLost (s : State) : Keeps s (linkLost s) :=
  (keeps_refuseWaiting _ _).after ((keeps_removeIfUp _).after ((keeps_latchCause .link _).after (.of_held rfl rfl)))

/-! ### The host's line -/

theorem keeps_streamOne (s : State) : Keeps s (streamOne s) := by
  unfold streamOne
  refine .ite ?_ (.refl s)
  split
  · exact .of_held rfl rfl
  · exact .refl s

theorem keeps_streamFill (s : State) : Keeps s (streamFill s) :=
  ((keeps_streamOne s).trans (keeps_streamOne _)).trans (keeps_streamOne _)

theorem keeps_transmit (s : State) : Keeps s (transmit s) := by
  obtain ⟨f, hf⟩ := transmit_flk s
  rw [hf]; exact .of_held rfl rfl

theorem keeps_submit (r : Request) (s : State) : Keeps s (submit r s) := .ite (.of_held rfl rfl) (.of_held rfl rfl)

theorem keeps_receive (b : Byte) (s : State) : Keeps s (receive b s) := by
  unfold receive
  split
  · exact .of_held rfl rfl
  · exact .of_held rfl rfl
  · exact (keeps_submit _ _).after (.of_held rfl rfl)

theorem keeps_byteGap (s : State) : Keeps s (byteGap s) := .ite (.refl s) (.of_held rfl rfl)

theorem keeps_frameGone (s : State) : Keeps s (frameGone s) := by
  unfold frameGone
  split
  · exact .refl s
  · extract_lets _ s1 _ s2
    have h1 : Keeps s s1 := .of_held rfl rfl
    have h2 : Keeps s s2 := .ite ((keeps_sweep _).after (h1.trans (.of_held rfl rfl))) h1
    exact (h2.trans (keeps_streamFill _)).trans (keeps_transmit _)

theorem keeps_watchdogOut (s : State) : Keeps s (watchdogOut s) := by
  unfold watchdogOut
  extract_lets _ s1
  have h1 : Keeps s s1 := (keeps_linkLost _).after (.of_held rfl rfl)
  exact .ite (.ite (h1.trans (keeps_addStriking _ _)) h1) (.refl s)

/-! ### The host's requests -/

theorem keeps_answer (t : Byte) (p : List Byte) (s : State) : Keeps s (answer t p s) := .of_held rfl rfl

theorem keeps_refuse (t : Byte) (c : RefusalCode) (s : State) : Keeps s (refuse t c s) := .of_held rfl rfl

theorem keeps_beginRun (k : RunKind) (s : State) : Keeps s (beginRun k s) := by
  unfold beginRun
  extract_lets _ t1 t2
  have h1 : Keeps s t1 := .of_held rfl rfl
  have h2 : Keeps s t2 := .ite (h1.trans (keeps_claimSlot _ _ _)) h1
  exact (keeps_raiseRun _).after (h2.trans (.of_held rfl rfl))

end Sys2Proof.Machine
end

section
/-! PROOFS. The point law and the scan law, through the requests and the operations that write the point table; O58. -/

namespace Sys2Proof

/-- A read of a key that a filter leaves its value. -/
theorem SMap.get_filter_same {α : Type} {d : α} {k : Nat} {f : Nat × α → Bool} {m : SMap α}
    (h : f (k, SMap.get d k m) = true) : SMap.get d k (m.filter f) = SMap.get d k m := by
  induction m with
  | nil => rfl
  | cons e m ih =>
    obtain ⟨j, v⟩ := e
    by_cases hj : j = k
    · subst hj
      have hf : f (j, v) = true := by simpa [SMap.get] using h
      simp [hf, SMap.get]
    · have hm := ih (by simpa [SMap.get, hj] using h)
      cases hf : f (j, v) <;> simp [hf, SMap.get, hj, hm]

end Sys2Proof

namespace Sys2Proof.Machine

theorem keeps_doProbe (a b : Word16) (range : Byte) (s : State) : Keeps s (doProbe a b range s) := by
  unfold doProbe
  refine .ite (keeps_refuse _ _ s) (.ite (keeps_refuse _ _ s) ?_)
  split
  · exact keeps_refuse _ _ s
  · exact keeps_probeStart _ _ _ s

theorem keeps_doStartPlan (s : State) : Keeps s (doStartPlan s) := by
  unfold doStartPlan
  split
  · exact keeps_refuse _ _ s
  · exact (keeps_startStep _).after ((keeps_answer _ _ _).after (keeps_beginRun .plan s))

theorem keeps_doStartLearn (r : Word32) (s : State) : Keeps s (doStartLearn r s) := by
  unfold doStartLearn
  split
  · exact keeps_refuse _ _ s
  · exact (keeps_beginRun .learn s).trans (.of_held rfl rfl)

theorem keeps_doStartZero (r lr : Word16) (s : State) : Keeps s (doStartZero r lr s) := by
  unfold doStartZero
  split
  · exact keeps_refuse _ _ s
  · exact (keeps_beginRun .zero s).trans (.of_held rfl rfl)

theorem keeps_doPause (s : State) : Keeps s (doPause s) :=
  .ite ((keeps_addHold .pause s).trans (keeps_answer _ _ _)) (keeps_refuse _ _ s)

theorem keeps_doResume (s : State) : Keeps s (doResume s) :=
  .ite (.ite (keeps_refuse _ _ s) ((keeps_removeHold _ s).trans (keeps_answer _ _ _))) (keeps_refuse _ _ s)

theorem keeps_doAbort (s : State) : Keeps s (doAbort s) :=
  .ite ((keeps_endCause _ _ s).trans (keeps_answer _ _ _)) (keeps_refuse _ _ s)

theorem keeps_doDefectTake (s : State) : Keeps s (doDefectTake s) := by
  unfold doDefectTake
  split
  · exact (keeps_answer _ _ _).after ((keeps_sweep _).after (.of_held rfl rfl))
  · exact keeps_answer _ _ s

theorem keeps_doPrintSet (enable baud timeout : Byte) (title : List Byte) (s : State) :
    Keeps s (doPrintSet enable baud timeout title s) := by
  unfold doPrintSet
  split
  · exact .ite (keeps_refuse _ _ s)
      ((keeps_answer _ _ _).after ((keeps_setEnable _ _).after (.of_held rfl rfl)))
  · exact keeps_refuse _ _ s

theorem keeps_doPrintCancel (s : State) : Keeps s (doPrintCancel s) :=
  .ite (keeps_answer _ _ s) ((keeps_cancelPrint s).trans (keeps_answer _ _ _))

theorem keeps_doHvRelease (s : State) : Keeps s (doHvRelease s) := by
  unfold doHvRelease
  extract_lets _ t1 t2
  have h1 : Keeps s t1 := .of_held rfl rfl
  have h2 : Keeps s t2 := .ite (h1.trans (keeps_removeHold _ _)) h1
  exact .ite (keeps_refuse _ _ s) (h2.trans (keeps_answer _ _ _))

/-! ### The laws, and the operations that write the point table -/

/-- A step of the point law and of the scan law. -/
structure KeepsLaws (s t : State) : Prop where
  point : s.pointLaw → t.pointLaw
  scan : s.scanLaw → t.scanLaw

theorem KeepsLaws.trans {s t u : State} (h : KeepsLaws s t) (g : KeepsLaws t u) : KeepsLaws s u :=
  ⟨fun hp => g.point (h.point hp), fun hs => g.scan (h.scan hs)⟩

/-- The point law goes on where a point that is not OPEN was not OPEN before and is still usable. -/
theorem State.pointLaw.of_usable {s t : State} (hs : s.pointLaw)
    (h : ∀ p, t.conn p ≠ .opn → s.conn p ≠ .opn ∧ (s.usable p = true → t.usable p = true)) : t.pointLaw :=
  fun p hp => (h p hp).2 (hs p (h p hp).1)

theorem State.scanLaw.of_none {s : State} (h : s.mxc.scan = none) : s.scanLaw := by
  intro sc hsc; rw [h] at hsc; cases hsc

/-- With a batch in flight there is no scan (R2). -/
theorem State.scanLaw.no_scan {s : State} (h : s.scanLaw) (hb : s.mxc.batch ≠ none) : s.mxc.scan = none := by
  cases hs : s.mxc.scan with
  | none => rfl
  | some sc => exact absurd (h sc hs).2.2 hb

theorem SameTable.conn_eq {s t : State} (h : SameTable s t) (p : Nat) : t.conn p = s.conn p := by
  simp [State.conn, h.conn]

theorem SameTable.quar_eq {s t : State} (h : SameTable s t) (p : Nat) : t.quar p = s.quar p := by
  simp [State.quar, h.quar]

theorem SameTable.card_eq {s t : State} (h : SameTable s t) (k : Nat) : t.card k = s.card k := by
  simp [State.card, h.cards]

theorem SameTable.usable_eq {s t : State} (h : SameTable s t) (p : Nat) : t.usable p = s.usable p := by
  simp [State.usable, State.present, h.card_eq, h.quar_eq]

theorem SameTable.pointLaw {s t : State} (h : SameTable s t) (hs : s.pointLaw) : t.pointLaw :=
  hs.of_usable fun p hp => ⟨h.conn_eq p ▸ hp, fun hu => (h.usable_eq p).trans hu⟩

theorem Keeps.laws {s t : State} (h : Keeps s t) : KeepsLaws s t where
  point := h.toSameTable.pointLaw
  scan := fun hs sc hsc => by
    rw [h.scan] at hsc
    obtain ⟨hslot, hr, hb⟩ := hs sc hsc
    obtain ⟨hr', hb'⟩ := h.idle (by rw [hsc]; nofun) hb
    exact ⟨hslot, hr' ▸ hr, hb'⟩

/-- An operation on a batch in flight that keeps the point law and begins no scan. -/
theorem KeepsLaws.of_batch {s t : State} (hb : s.mxc.batch ≠ none) (hp : s.pointLaw → t.pointLaw)
    (hs : t.mxc.scan = s.mxc.scan) : KeepsLaws s t :=
  ⟨hp, fun h => .of_none (hs.trans (h.no_scan hb))⟩

theorem mem_cardPoints {p k : Nat} : p ∈ cardPoints k ↔ p / 64 = k := by
  simp only [cardPoints, Config.channels, List.mem_map, List.mem_range]
  constructor
  · rintro ⟨c, hc, rfl⟩; omega
  · rintro rfl; exact ⟨p % 64, by omega, by omega⟩

theorem slotOf_eq (p : Nat) : slotOf p = p / 64 := rfl

@[simp] theorem openCard_conn_get (k p : Nat) (s : State) :
    (openCard k s).conn p = if p / 64 = k then .opn else s.conn p := by
  simp [openCard, State.conn, SMap.get_setAll, mem_cardPoints]

@[simp] theorem quarantineCard_quar_get (k p : Nat) (q : Quar) (s : State) :
    (quarantineCard k q s).quar p = if p / 64 = k then q else s.quar p := by
  simp [quarantineCard, State.quar, SMap.get_setAll, mem_cardPoints]

/-- Clearing CARD_LOST on a slot leaves every other quarantine, and brings up none where there was none (R24). -/
theorem clearLost_quar_same {k p : Nat} {s : State} (h : p / 64 ≠ k ∨ s.quar p ≠ .cardLost) :
    (clearLost k s).quar p = s.quar p :=
  SMap.get_filter_same (by simpa [State.quar, slotOf_eq, not_and_or] using h)

/-- A reset leaves every connection or opens all, and adds no quarantine (R23, R24). -/
theorem laws_takeReset (k : ResetKind) (straps : BitVec 2) (s : State) : KeepsLaws s (takeReset k straps s) where
  point := fun hs => hs.of_usable fun p hp => by
    cases k
    case powerOn => exact absurd rfl hp
    case work => exact ⟨hp, id⟩
    all_goals
      refine ⟨hp, fun hu => ?_⟩
      simp only [State.usable, Bool.and_eq_true] at hu ⊢
      exact ⟨hu.1, rfl⟩
  scan := fun _ sc hsc => by
    cases hsc
    exact ⟨Nat.zero_lt_succ _, nofun, rfl⟩

theorem laws_doPointWrite (point lead : Word16) (release : Byte) (s : State) :
    KeepsLaws s (doPointWrite point lead release s) := by
  have href : ∀ c, KeepsLaws s (refuse 0x03#8 c s) := fun c => (keeps_refuse _ c s).laws
  unfold doPointWrite
  extract_lets p
  split
  · exact href _
  split
  · exact href _
  split
  · exact href _
  split
  · exact href _
  split
  · exact href _
  · refine ⟨fun hs => hs.of_usable fun q hq => ⟨hq, fun hu => ?_⟩, fun hs sc hsc => hs sc hsc⟩
    simp only [State.usable, Bool.and_eq_true, beq_iff_eq] at hu ⊢
    refine ⟨hu.1, ?_⟩
    simp only [State.quar, answer_mxc]
    split
    · rw [SMap.get_set]; split
      · rfl
      · exact hu.2
    · exact hu.2

/-- What a scan makes of the slot probed, before it goes on to the next (R2, R23, R24). -/
def scanSlot (d : Option Desc) (k : Nat) (s : State) : State :=
  match d with
  | some d => clearLost k { s with mxc := { s.mxc with cards := s.mxc.cards.set .absent k (.present d) } }
  | none => openCard k { s with mxc := { s.mxc with cards := s.mxc.cards.set .absent k .absent } }

theorem scanned_eq (d : Option Desc) (sc : Scan) (s : State) :
    scanned d sc s =
      if sc.slot + 1 < Config.slots then
        { scanSlot d sc.slot s with
          mxc := { (scanSlot d sc.slot s).mxc with scan := some { sc with slot := sc.slot + 1 } } }
      else
        let t := { scanSlot d sc.slot s with mxc := { (scanSlot d sc.slot s).mxc with scan := none } }
        requestReset (if sc.hadLost then raiseCard t else t) := by
  unfold scanned scanSlot
  cases d <;> rfl

theorem scanSlot_card (d : Option Desc) (k j : Nat) (s : State) :
    (scanSlot d k s).card j = if j = k then (d.elim .absent .present) else s.card j := by
  cases d <;> simp [scanSlot, openCard, clearLost, State.card, SMap.get_set]

theorem scanSlot_present (d : Desc) (k : Nat) (s : State) (p : Nat) (h : s.present p = true) :
    (scanSlot (some d) k s).present p = true := by
  simp only [State.present, scanSlot_card, Option.elim]
  split
  · rfl
  · exact h

theorem scanSlot_quar {d : Desc} {k p : Nat} {s : State} (h : p / 64 ≠ k ∨ s.quar p ≠ .cardLost) :
    (scanSlot (some d) k s).quar p = s.quar p := clearLost_quar_same h

theorem pointLaw_scanSlot (d : Option Desc) (k : Nat) (s : State) (hs : s.pointLaw) : (scanSlot d k s).pointLaw := by
  refine hs.of_usable fun p hp => ?_
  cases d with
  | none =>
    have hc : (scanSlot none k s).conn p = if p / 64 = k then .opn else s.conn p := by
      rw [scanSlot, openCard_conn_get]; rfl
    rw [hc] at hp
    have hk : p / 64 ≠ k := fun h => hp (if_pos h)
    rw [if_neg hk] at hp
    refine ⟨hp, fun hu => ?_⟩
    rw [← hu]
    simp only [State.usable, State.present, scanSlot_card, slotOf_eq, if_neg hk]
    rfl
  | some d =>
    refine ⟨hp, fun hu => ?_⟩
    simp only [State.usable, Bool.and_eq_true, beq_iff_eq] at hu ⊢
    refine ⟨scanSlot_present d k s p hu.1, ?_⟩
    exact (scanSlot_quar (Or.inr (by rw [hu.2]; nofun))).trans hu.2

/-- The scan goes on to the next slot, or ends and asks for the reset batch; the point table is as it was (R2, R24). -/
theorem scanned_table (d : Option Desc) (sc : Scan) (s : State) :
    (scanned d sc s).mxc.cards = (scanSlot d sc.slot s).mxc.cards ∧
    (scanned d sc s).mxc.conn = (scanSlot d sc.slot s).mxc.conn ∧
    (scanned d sc s).mxc.quar = (scanSlot d sc.slot s).mxc.quar ∧
    (scanned d sc s).mxc.batch = s.mxc.batch ∧ (scanned d sc s).resetting = s.resetting ∧
    (scanned d sc s).mxc.scan = if sc.slot + 1 < 64 then some { sc with slot := sc.slot + 1 } else none := by
  have hb : (scanSlot d sc.slot s).mxc.batch = s.mxc.batch := by cases d <;> rfl
  have hr : (scanSlot d sc.slot s).resetting = s.resetting := by cases d <;> rfl
  rw [scanned_eq]
  simp only [Config.slots, requestReset]
  refine ⟨?_, ?_, ?_, ?_, ?_, ?_⟩ <;> repeat' split
  all_goals simp [hb, hr]

theorem laws_scanStep (d : Nat → Option Desc) (s : State) : KeepsLaws s (scanStep d s) := by
  unfold scanStep
  split
  · rename_i sc hsc
    obtain ⟨hc, hn, hq, hb, hr, hscan⟩ := scanned_table (d sc.slot) sc s
    refine ⟨fun hs => (pointLaw_scanSlot (d sc.slot) sc.slot s hs).of_usable fun p hp => ?_, fun hs sc' hsc' => ?_⟩
    · simp only [State.conn, State.usable, State.present, State.card, State.quar, hc, hn, hq] at hp ⊢
      exact ⟨hp, id⟩
    · obtain ⟨-, hres, hbat⟩ := hs sc hsc
      rw [hscan] at hsc'
      split at hsc'
      · cases hsc'
        exact ⟨by assumption, hr ▸ hres, hb ▸ hbat⟩
      · cases hsc'
  · exact (Keeps.refl s).laws

/-- The point law after connections are recorded OPEN, or closed on usable points alone (R6, R14, R15). -/
theorem State.pointLaw.with_conn {s : State} (hs : s.pointLaw) (c : SMap Conn)
    (h : ∀ p, c.get .opn p ≠ .opn → s.conn p ≠ .opn ∨ s.usable p = true) :
    State.pointLaw { s with mxc := { s.mxc with conn := c } } :=
  fun p hp => (h p hp).elim (hs p) id

theorem laws_acknowledge (point : Nat) (side : Side) (s : State) : KeepsLaws s (acknowledge point side s) := by
  have hopen : KeepsLaws s (openAcknowledged point side s) := ⟨fun h => h, fun h => h⟩
  unfold acknowledge
  split
  · exact hopen
  · rename_i b hb
    split
    · exact hopen
    · extract_lets b' conn _ s1
      have ht : SameTable s1 (if b'.cmds = [] then phaseDone b' s1 else setBatch b' s1) :=
        .ite (sameTable_phaseDone _ _) (sameTable_setBatch _ _)
      refine .of_batch (by rw [hb]; nofun) (fun hs => ht.pointLaw (hs.with_conn conn fun p hp => ?_)) ht.scan
      unfold conn at hp
      split at hp
      · split at hp
        · rw [SMap.get_set] at hp
          split at hp
          · exact absurd rfl hp
          · exact Or.inl hp
        · exact Or.inl hp
      · split at hp
        · rename_i hu
          rw [SMap.get_set] at hp
          split at hp
          · rename_i hpp; exact Or.inr (hpp ▸ hu)
          · exact Or.inl hp
        · exact Or.inl hp

/-- The point law after some points are quarantined and recorded OPEN together (R7, R17, R18, R19). -/
theorem State.pointLaw.quarantine_open {s t : State} (hs : s.pointLaw) (out : Nat → Prop)
    (hout : ∀ p, out p → t.conn p = .opn)
    (hin : ∀ p, ¬out p → t.conn p = s.conn p ∧ t.quar p = s.quar p ∧ (s.present p = true → t.present p = true)) :
    t.pointLaw := by
  refine hs.of_usable fun p hp => ?_
  obtain ⟨hc, hq, hpr⟩ := hin p fun h => hp (hout p h)
  refine ⟨hc ▸ hp, fun hu => ?_⟩
  simp only [State.usable, Bool.and_eq_true, beq_iff_eq] at hu ⊢
  exact ⟨hpr hu.1, hq.trans hu.2⟩

/-! ### A card that goes, and a card that is read -/

/-- A PRESENT card is LOST, its points are quarantined CARD_LOST and OPEN, its slot joins the lost since set, and N-CARD is
raised (R19, R25, R200). -/
theorem cardGone_present {k : Nat} {s : State} {d : Desc} (h : s.card k = .present d) :
    cardGone k s = raiseCard { s with
      mxc := { s.mxc with
        opens := s.mxc.opens.filter fun c => !c.atSlot k
        cards := s.mxc.cards.set .absent k (.lost d)
        quar := s.mxc.quar.setAll .none (cardPoints k) .cardLost
        conn := s.mxc.conn.setAll .opn (cardPoints k) .opn }
      flk := { s.flk with lostSince := insertAsc k s.flk.lostSince } } := by
  dsimp only [cardGone, openCard, quarantineCard]
  split
  · rename_i d' hd
    cases h.symm.trans hd
    rfl
  · rename_i hd
    exact absurd h (hd d)

/-- A card that is not PRESENT cannot go: the commands outstanding to it are dropped, and nothing else. -/
theorem cardGone_other {k : Nat} {s : State} (h : ∀ d, s.card k ≠ .present d) :
    cardGone k s = { s with mxc := { s.mxc with opens := s.mxc.opens.filter fun c => !c.atSlot k } } := by
  unfold cardGone
  extract_lets _ s1 s2
  split
  · rename_i d hd
    exact absurd hd (h d)
  · rfl

theorem cardGone_card {k : Nat} {s : State} {d : Desc} (h : s.card k = .present d) (j : Nat) :
    (cardGone k s).card j = if j = k then .lost d else s.card j := by
  simp [cardGone_present h, State.card, SMap.get_set]

theorem cardGone_conn {k : Nat} {s : State} {d : Desc} (h : s.card k = .present d) (p : Nat) :
    (cardGone k s).conn p = if p / 64 = k then .opn else s.conn p := by
  simp [cardGone_present h, State.conn, SMap.get_setAll, mem_cardPoints]

theorem cardGone_quar {k : Nat} {s : State} {d : Desc} (h : s.card k = .present d) (p : Nat) :
    (cardGone k s).quar p = if p / 64 = k then .cardLost else s.quar p := by
  simp [cardGone_present h, State.quar, SMap.get_setAll, mem_cardPoints]

theorem pointLaw_cardGone (k : Nat) (s : State) (hs : s.pointLaw) : (cardGone k s).pointLaw := by
  by_cases h : ∃ d, s.card k = .present d
  · obtain ⟨d, h⟩ := h
    refine hs.quarantine_open (fun p => p / 64 = k) (fun p hp => by rw [cardGone_conn h, if_pos hp]) fun p hp => ?_
    refine ⟨by rw [cardGone_conn h, if_neg hp], by rw [cardGone_quar h, if_neg hp], fun hpr => ?_⟩
    rw [← hpr]
    simp only [State.present, slotOf_eq, cardGone_card h, if_neg hp]
  · rw [cardGone_other fun d hd => h ⟨d, hd⟩]
    exact fun p hp => hs p hp

theorem cardGone_resetting (k : Nat) (s : State) : (cardGone k s).resetting = s.resetting := by
  dsimp only [cardGone]
  split <;> simp [openCard, quarantineCard]

theorem laws_cardGone (k : Nat) (s : State) : KeepsLaws s (cardGone k s) where
  point := pointLaw_cardGone k s
  scan := fun hs sc hsc => by
    obtain ⟨-, -, -, -, -, -, -, -, -, -, -, hbatch, -, hscan, -⟩ := cardGone_keeps k s
    obtain ⟨h1, h2, h3⟩ := hs sc (hscan ▸ hsc)
    exact ⟨h1, cardGone_resetting k s ▸ h2, hbatch.trans h3⟩

theorem cardGone_batch (k : Nat) (s : State) : (cardGone k s).mxc.batch = s.mxc.batch := by
  obtain ⟨-, -, -, -, -, -, -, -, -, -, -, hbatch, -⟩ := cardGone_keeps k s
  exact hbatch

theorem laws_ackTimeout (slot : Nat) (s : State) : KeepsLaws s (ackTimeout slot s) := by
  unfold ackTimeout
  split
  · split
    · exact laws_cardGone slot s
    · exact (Keeps.refl s).laws
  · rename_i b hb
    split
    · refine (laws_cardGone slot s).trans (((sameTable_goOnWithout slot _ _).keeps (Or.inr ?_)).laws)
      rw [cardGone_batch, hb]; nofun
    · exact (Keeps.refl s).laws

theorem laws_readbackLost (slot : Nat) (s : State) : KeepsLaws s (readbackLost slot s) := by
  unfold readbackLost
  split
  · exact (Keeps.refl s).laws
  · rename_i b hb
    split
    · exact (Keeps.refl s).laws
    · refine (laws_cardGone slot s).trans (((sameTable_readDone slot _ _).keeps (Or.inr ?_)).laws)
      rw [cardGone_batch, hb]; nofun

/-- A table after a card's readback report gave the failed points one value, or the whole card when a relay is stuck. -/
def readMark {α : Type} [DecidableEq α] (slot : Nat) (bad : List Nat) (stuck : Bool) (d v : α) (m : SMap α) : SMap α :=
  if stuck then (m.setAll d bad v).setAll d (cardPoints slot) v else m.setAll d bad v

theorem readMark_get {α : Type} [DecidableEq α] (slot : Nat) (bad : List Nat) (stuck : Bool) (d v : α) (m : SMap α)
    (p : Nat) : SMap.get d p (readMark slot bad stuck d v m) =
      if p ∈ bad ∨ (stuck = true ∧ p / 64 = slot) then v else SMap.get d p m := by
  cases stuck
  · simp [readMark, SMap.get_setAll]
  · by_cases hb : p ∈ bad <;> by_cases hk : p / 64 = slot <;>
      simp [readMark, SMap.get_setAll, mem_cardPoints, hb, hk]

/-- The matrix after a card's readback report, before the batch goes on (R16 to R18): what failed to close is quarantined
and OPEN, the whole card when a relay is stuck, and the openings are outstanding. -/
def readTable (slot : Nat) (a b : BitVec 64) (s : State) : State :=
  { s with mxc := { s.mxc with
    quar := readMark slot (failedToClose s slot a b) (anyStuck s slot a b) .none .readback s.mxc.quar
    conn := readMark slot (failedToClose s slot a b) (anyStuck s slot a b) .opn .opn s.mxc.conn
    opens := s.mxc.opens ++
      bothRelays (if anyStuck s slot a b then cardPoints slot else failedToClose s slot a b) } }

/-- The batch in flight after that report: the points left unconnected, and the faults (R17, R18). -/
def readBatch (slot : Nat) (a b : BitVec 64) (s : State) (bt : Batch) : Batch :=
  let bad := failedToClose s slot a b
  let bt := { exclude bad .noClose bt with faults := bt.faults ++ bad.map MFault.noClose }
  if anyStuck s slot a b then
    { exclude (cardPoints slot) .stuck bt with faults := bt.faults ++ [.stuck slot], stuck := true }
  else bt

/-- A report of a card that is read: its table, its batch, and the next card or the end of the batch (R16). -/
theorem readback_eq {slot : Nat} {a b : BitVec 64} {s : State} {bt : Batch} (hb : s.mxc.batch = some bt)
    (hp : bt.phase = .readback) (hr : slot ∈ bt.reads) :
    readback slot a b s = readDone slot (readBatch slot a b s bt) (readTable slot a b s) := by
  have hc : (decide (bt.phase ≠ .readback) || !bt.reads.contains slot) = false := by simp [hp, hr]
  unfold readback readTable readBatch
  simp only [hb]
  cases anyStuck s slot a b <;> simp [hp, hr, readMark, openCard, quarantineCard]

theorem readback_idle {slot : Nat} {a b : BitVec 64} {s : State}
    (h : ∀ bt, s.mxc.batch = some bt → bt.phase = .readback → slot ∉ bt.reads) : readback slot a b s = s := by
  unfold readback
  split
  · rfl
  · rename_i bt hb
    rw [if_pos]
    by_cases hp : bt.phase = .readback
    · simp [h bt hb hp]
    · simp [hp]

theorem mem_failedToClose {s : State} {slot p : Nat} {a b : BitVec 64} :
    p ∈ failedToClose s slot a b ↔ p / 64 = slot ∧
      ((s.conn p = .a ∧ a.getLsbD (p % 64) = false) ∨ (s.conn p = .b ∧ b.getLsbD (p % 64) = false)) := by
  rw [failedToClose, List.mem_filter, mem_cardPoints]
  cases h : s.conn p <;> simp

theorem anyStuck_iff {s : State} {slot : Nat} {a b : BitVec 64} :
    anyStuck s slot a b = true ↔ ∃ p, p / 64 = slot ∧
      ((a.getLsbD (p % 64) = true ∧ s.conn p ≠ .a) ∨ (b.getLsbD (p % 64) = true ∧ s.conn p ≠ .b)) := by
  simp [anyStuck, List.any_eq_true, mem_cardPoints]

/-- What a report quarantines and opens: the failed points, or the whole card when a relay is stuck (R17, R18). -/
def readOut (slot : Nat) (a b : BitVec 64) (s : State) (p : Nat) : Prop :=
  p ∈ failedToClose s slot a b ∨ (anyStuck s slot a b = true ∧ p / 64 = slot)

theorem readTable_out {slot p : Nat} {a b : BitVec 64} {s : State} (h : readOut slot a b s p) :
    (readTable slot a b s).conn p = .opn ∧ (readTable slot a b s).quar p = .readback :=
  ⟨(readMark_get ..).trans (if_pos h), (readMark_get ..).trans (if_pos h)⟩

theorem readTable_in {slot p : Nat} {a b : BitVec 64} {s : State} (h : ¬readOut slot a b s p) :
    (readTable slot a b s).conn p = s.conn p ∧ (readTable slot a b s).quar p = s.quar p :=
  ⟨(readMark_get ..).trans (if_neg h), (readMark_get ..).trans (if_neg h)⟩

theorem pointLaw_readTable (slot : Nat) (a b : BitVec 64) (s : State) (hs : s.pointLaw) :
    (readTable slot a b s).pointLaw := by
  refine hs.quarantine_open (readOut slot a b s) (fun p hp => (readTable_out hp).1) fun p hp => ?_
  exact ⟨(readTable_in hp).1, (readTable_in hp).2, fun hpr => hpr⟩

theorem laws_readback (slot : Nat) (a b : BitVec 64) (s : State) : KeepsLaws s (readback slot a b s) := by
  by_cases h : ∃ bt, s.mxc.batch = some bt ∧ bt.phase = .readback ∧ slot ∈ bt.reads
  · obtain ⟨bt, hb, hp, hr⟩ := h
    rw [readback_eq hb hp hr]
    have ht := sameTable_readDone slot (readBatch slot a b s bt) (readTable slot a b s)
    exact .of_batch (by rw [hb]; nofun) (fun hs => ht.pointLaw (pointLaw_readTable slot a b s hs)) ht.scan
  · rw [readback_idle fun bt hb hp hr => h ⟨bt, hb, hp, hr⟩]
    exact (Keeps.refl s).laws

/-! ### Every step -/

/-- A request that is neither POINT-WRITE nor a reset leaves the point table alone. -/
theorem keeps_carryOut {i : Instr} (hw : ∀ p l r, i ≠ .pointWrite p l r) (ha : i ≠ .resetAll) (hk : i ≠ .resetWork)
    (s : State) : Keeps s (carryOut i s) := by
  cases i
  case pointWrite p l r => exact absurd rfl (hw p l r)
  case resetAll => exact absurd rfl ha
  case resetWork => exact absurd rfl hk
  case pointRead p => exact .ite (keeps_refuse _ _ s) (keeps_answer _ _ s)
  case netErase all id =>
    dsimp only [carryOut, doNetErase]
    repeat' split
    all_goals exact .of_held rfl rfl
  case netWrite id flag pts =>
    dsimp only [carryOut, doNetWrite]
    split <;> exact .of_held rfl rfl
  case netRead id piece => exact .ite (keeps_refuse _ _ s) (keeps_answer _ _ s)
  case calWrite r o g => exact .ite (keeps_refuse _ _ s) (.ite (keeps_refuse _ _ s) (.of_held rfl rfl))
  case planErase => exact .ite (keeps_refuse _ _ s) (.of_held rfl rfl)
  case planAdd b =>
    dsimp only [carryOut, doPlanAdd]
    repeat' split
    all_goals exact .of_held rfl rfl
  case actionsWrite acts limit =>
    dsimp only [carryOut, doActionsWrite]
    repeat' split
    all_goals exact .of_held rfl rfl
  case startPlan => exact keeps_doStartPlan s
  case startLearn r => exact keeps_doStartLearn r s
  case startZero r lr => exact keeps_doStartZero r lr s
  case pause => exact keeps_doPause s
  case resume => exact keeps_doResume s
  case abort => exact keeps_doAbort s
  case probe a b r => exact keeps_doProbe a b r s
  case defectTake => exact keeps_doDefectTake s
  case streamSet on =>
    dsimp only [carryOut, doStreamSet]
    split <;> exact .of_held rfl rfl
  case printSet en baud tmo title => exact keeps_doPrintSet en baud tmo title s
  case printCancel => exact keeps_doPrintCancel s
  case hvRelease => exact keeps_doHvRelease s
  all_goals exact .of_held rfl rfl

theorem laws_carryOut (i : Instr) (s : State) : KeepsLaws s (carryOut i s) := by
  cases i with
  | pointWrite p l r => exact laws_doPointWrite p l r s
  | resetAll => exact laws_takeReset _ _ s
  | resetWork => exact laws_takeReset _ _ s
  | _ => exact (keeps_carryOut (by simp) (by simp) (by simp) s).laws

theorem laws_service (s : State) : KeepsLaws s (service s) := by
  unfold service
  split
  · exact (Keeps.refl s).laws
  · split
    · exact (Keeps.refl s).laws
    · rename_i r rs _
      refine KeepsLaws.trans (t := { s with flk := { s.flk with requests := rs, busy := true } })
        (Keeps.laws (.of_held rfl rfl)) ?_
      cases r with
      | ok i => exact laws_carryOut i _
      | badLength t => exact (keeps_refuse t .length _).laws

/-- After the next request has been taken, what else a step does leaves the point table alone. -/
theorem keeps_finish (before s : State) : Keeps (service s) (finish before s) := by
  have h1 := (keeps_pump Config.engineFuel (service s)).trans (keeps_takeAfterSettle before _)
  have h2 := (h1.trans (keeps_pump Config.engineFuel _)).trans (keeps_heldAtEnd _)
  exact ((h2.trans (keeps_wakePrint _)).trans ((keeps_streamFill _).trans (keeps_transmit _))).trans (keeps_streamFill _)

theorem laws_command {f : State → State} {s t : State} (hf : KeepsLaws s (f s)) (h : command f s = .next t) :
    KeepsLaws s t := by
  obtain rfl : finish s (f s) = t := by simpa [command] using h
  exact (hf.trans (laws_service _)).trans (keeps_finish s _).laws

theorem laws_exec {i : Instr} {s t : State} (h : exec i s = .next t) : KeepsLaws s t := by
  cases i with
  | powerOn straps => exact laws_command (laws_takeReset _ _ s) h
  | resetPin straps => exact laws_command (laws_takeReset _ _ s) h
  | receivedByte b => exact laws_command (keeps_receive b s).laws h
  | interByteGapTimeout => exact laws_command (keeps_byteGap s).laws h
  | frameSent => exact laws_command (keeps_frameGone s).laws h
  | linkWatchdogExpiry => exact laws_command (keeps_watchdogOut s).laws h
  | scanDescriptor d ok => exact laws_command (laws_scanStep _ s) h
  | scanProbeTimeout => exact laws_command (laws_scanStep _ s) h
  | batchRequest => exact laws_command (keeps_takeHeld _ s).laws h
  | cardAcknowledge p side => exact laws_command (laws_acknowledge p side s) h
  | cardAckTimeout k => exact laws_command (laws_ackTimeout k s) h
  | openPhaseWaitEnd => exact laws_command (keeps_waitEnd _ s).laws h
  | closePhaseWaitEnd => exact laws_command (keeps_waitEnd _ s).laws h
  | readbackReport k a b => exact laws_command (laws_readback k a b s) h
  | readbackTimeout k => exact laws_command (laws_readbackLost k s) h
  | windowOpen => exact laws_command (keeps_windowTake s).laws h
  | settleTimeEnd => exact laws_command (f := settleEnd) (Keeps.laws (.of_held rfl rfl)) h
  | sample raw => exact laws_command (keeps_sampleIn raw s).laws h
  | insulationReading leak hvm => exact laws_command (keeps_insulationIn leak hvm s).laws h
  | busMonitorReading raw => exact laws_command (keeps_busReading raw s).laws h
  | energisationEnable => exact laws_command (keeps_energisationTake s).laws h
  | rampTick => exact laws_command (keeps_rampTick s).laws h
  | rampCheck => exact laws_command (keeps_rampCheck s).laws h
  | dwellTick => exact laws_command (keeps_dwellTick s).laws h
  | dwellTimeOut => exact laws_command (keeps_dwellTimeOut s).laws h
  | fastReading n => exact laws_command (keeps_fastReading n s).laws h
  | dischargeFault => exact laws_command (keeps_dischargeFault s).laws h
  | guardOpen => exact laws_command (keeps_guardOpened s).laws h
  | guardClose => exact laws_command (f := guardClosedIn) (Keeps.laws (.of_held rfl rfl)) h
  | characterSent busy => exact laws_command (keeps_charGone busy s).laws h
  | paperChange present busy => exact laws_command (keeps_paperChanged present busy s).laws h
  | busyFall => exact laws_command (keeps_busyFell s).laws h
  | busyTimeout => exact laws_command (keeps_busyOut s).laws h
  | _ => exact laws_command (keeps_submit _ s).laws h

theorem laws_step {s t : State} (h : step s = .next t) : KeepsLaws s t := by
  unfold step at h
  split at h
  · cases h; exact (Keeps.refl s).laws
  · rename_i c rest _
    exact KeepsLaws.trans (t := { s with pending := rest }) (Keeps.laws (.of_held rfl rfl)) (laws_exec h)

/-- Settles O58: every step is its command's effect, which keeps both laws (`laws_exec`), and work that leaves the point table
alone. -/
theorem everyStepKeepsThePointLaw : Obligations.EveryStepKeepsThePointLaw :=
  ⟨fun _ _ hs h => (laws_step h).point hs, fun _ _ hs h => (laws_step h).scan hs⟩

end Sys2Proof.Machine
end

section
/-! PROOFS. Requests about points and cards, the resets, and the laws after reset: O3, O5, O8, O35, O36, O57. -/

namespace Sys2Proof.Machine

/-! ### Requests answered at once -/

theorem State.settled.taken {s : State} (h : s.settled) : s.taken.settled := h

/-- A request answered at once in a quiet state, its owner having changed nothing of the frame link, the printer, the log or
the run (R197). -/
theorem request_replied {s : State} (i : Instr) (h : s.quiet) (f : Frame) (t : State) (ht : carryOut i s.taken = place f t)
    (hs : t.settled) (hf : t.flk = s.taken.flk) (hb : t.mxc.batch = s.mxc.batch) :
    request i s = .next (t.replied f) := by
  have ⟨_, _, hwire, hreply, _⟩ := h
  rw [request_answers i h f t ht hs (by rw [hf]; exact hwire) (by rw [hf]; rfl) (by rw [hb]; exact id)]
  have hr : t.flk.reply = none := by rw [hf]; exact hreply
  simp [State.replied, replyWire, ← hr]

/-- A request that only answers. -/
theorem request_answered {s : State} (i : Instr) (h : s.quiet) (f : Frame) (ht : carryOut i s.taken = place f s.taken) :
    request i s = .next (s.taken.replied f) :=
  request_replied i h f _ ht h.1.1.taken rfl rfl

theorem Card.bytes_present (d : Desc) : (Card.present d).bytes =
    [if d.ctype = .high then 4#8 else 0#8, BitVec.ofNat 8 (d.operate.toNat + 16 * d.release.toNat)] := by
  cases hd : d.ctype <;> simp [Card.bytes, le8, yesNo, hd]

theorem Card.bytes_lost (d : Desc) : (Card.lost d).bytes =
    [if d.ctype = .high then 5#8 else 1#8, BitVec.ofNat 8 (d.operate.toNat + 16 * d.release.toNat)] := by
  cases hd : d.ctype <;> simp [Card.bytes, le8, yesNo, hd]

/-- Settles O3: CARDS is answered with the byte pair of each slot's entry. -/
theorem cardsGivesAllSlotsInOrder : Obligations.CardsGivesAllSlotsInOrder := by
  intro s h
  refine (request_answered .cards h _ rfl).trans ?_
  refine congrArg (fun p => Host.Outcome.next (State.answered 0x02#8 p s)) (List.flatMap_congr fun k _ => ?_)
  change (s.card k).bytes = _
  cases s.card k with
  | absent => rfl
  | present d => exact Card.bytes_present d
  | lost d => exact Card.bytes_lost d

/-- Settles O5: POINT-READ's one check, and its answer. -/
theorem pointReadGivesThePoint : Obligations.PointReadGivesThePoint := by
  intro s p h
  by_cases hp : p.toNat < 4096
  · rw [if_pos hp]
    refine request_answered (.pointRead p) h _ ?_
    have hlt : ¬Config.points ≤ p.toNat := Nat.not_le.mpr hp
    dsimp only [carryOut]
    rw [doPointRead, if_neg hlt]
    unfold answer pointPayload
    cases hpr : s.present p.toNat <;> simp [State.present, State.card, le8, yesNo] at hpr ⊢ <;> simp [hpr] <;> rfl
  · rw [if_neg hp]
    refine request_answered (.pointRead p) h _ ?_
    have hge : Config.points ≤ p.toNat := Nat.not_lt.mp hp
    dsimp only [carryOut]
    rw [doPointRead, if_pos hge]
    rfl

/-- A flag byte is 0 or 1, or no flag (R206). -/
theorem flagOf_cases (r : Byte) :
    (r = 0#8 ∧ flagOf r = some false) ∨ (r = 1#8 ∧ flagOf r = some true) ∨ (1 < r.toNat ∧ flagOf r = none) := by
  by_cases h0 : r = 0#8
  · exact Or.inl ⟨h0, by simp [flagOf, h0]⟩
  · by_cases h1 : r = 1#8
    · exact Or.inr (Or.inl ⟨h1, by simp [flagOf, h1]⟩)
    · refine Or.inr (Or.inr ⟨by bv_omega, ?_⟩)
      simp [flagOf, h0, h1]

/-- POINT-WRITE's checks in order, with the byte of its release flag (R22, R76). -/
theorem doPointWrite_eq (p l : Word16) (r : Byte) (s : State) :
    doPointWrite p l r s =
      if s.active then refuse 0x03#8 .busy s
      else if 4096 ≤ p.toNat ∨ 1 < r.toNat then refuse 0x03#8 .badArg s
      else if s.present p.toNat = false then refuse 0x03#8 .absentPoint s
      else if r = 1#8 ∧ (s.card (p.toNat / 64)).isLost = true then refuse 0x03#8 .state s
      else answer 0x03#8 (le16 p.toNat ++ le16 l.toNat ++ le8 (if r = 1#8 then Quar.none else s.quar p.toNat).code)
        { s with
          nst := { s.nst with leads := s.nst.leads.set 0 p.toNat l.toNat }
          mxc := { s.mxc with quar := if r = 1#8 then s.mxc.quar.set .none p.toNat .none else s.mxc.quar } } := by
  have hpts : Config.points = 4096 := rfl
  unfold doPointWrite
  rcases flagOf_cases r with ⟨rfl, hf⟩ | ⟨rfl, hf⟩ | ⟨hr, hf⟩
  · simp only [hf, hpts, State.lead, State.quar, SMap.get_set]
    simp
  · simp only [hf, hpts, State.lead, State.quar, SMap.get_set]
    simp [slotOf_eq, SMap.get_set]
  · simp [hf, hpts, hr]

/-- Settles O8: each refusal and the accepted write answer at once. -/
theorem pointWriteStoresLeadAndReleases : Obligations.PointWriteStoresLeadAndReleases := by
  intro s p l r h
  have hc : carryOut (.pointWrite p l r) s.taken = doPointWrite p l r s.taken := rfl
  rw [doPointWrite_eq] at hc
  have hactive : s.taken.active = s.active := rfl
  have hpresent : s.taken.present p.toNat = s.present p.toNat := rfl
  have hcard : s.taken.card (p.toNat / 64) = s.card (p.toNat / 64) := rfl
  rw [hactive, hpresent, hcard] at hc
  change request _ s = _
  split at hc
  · rw [if_pos ‹_›]; exact request_answered _ h _ hc
  rw [if_neg ‹_›]
  split at hc
  · rw [if_pos ‹_›]; exact request_answered _ h _ hc
  rw [if_neg ‹_›]
  split at hc
  · rw [if_pos ‹_›]; exact request_answered _ h _ hc
  rw [if_neg ‹_›]
  split at hc
  · rw [if_pos ‹_›]; exact request_answered _ h _ hc
  rw [if_neg ‹_›]
  exact request_replied _ h _ _ hc h.1.1.taken rfl rfl

/-! ### Resets -/

/-- A block taken to its defaults has nothing to do but the scan: within its command a reset is followed by the transmitter
alone, and no held request is taken (R203, R2). -/
theorem finish_takeReset {before x u : State} {k : ResetKind} {straps : BitVec 2}
    (h : service x = takeReset k straps u) : finish before x = transmit (takeReset k straps u) := by
  have htodo : (takeReset k straps u).todo = [] := rfl
  have hheld : takeAfterSettle before (takeReset k straps u) = takeReset k straps u := by
    unfold takeAfterSettle
    split
    · generalize (before.mxc.held.filter fun r => _).length = n
      cases n <;> rfl
    · rfl
  have hrnc : (takeReset k straps u).rnc.struck = false := by cases k <;> rfl
  have hprint : (takeReset k straps u).pre.state = .idle → (takeReset k straps u).nothingToPrint :=
    fun _ => Or.inl (by cases k <;> rfl)
  have hstream : (takeReset k straps u).dlg.streaming = false := rfl
  unfold finish
  simp only [h, pump_nil _ htodo, hheld, wakePrint_settled hprint, streamFill_settled (Or.inl hstream),
    heldAtEnd_settled (fun hs => absurd (hrnc.symm.trans hs) (by decide))]
  obtain ⟨f, hf⟩ := transmit_flk (takeReset k straps u)
  exact streamFill_settled (Or.inl (by rw [hf]; exact hstream))

/-- During a reset nothing but a reply goes out (R203). -/
theorem transmit_resetting {s : State} (hr : s.resetting ≠ none) (hp : s.flk.reply = none) : transmit s = s := by
  unfold transmit
  simp [hp, Option.isSome_iff_ne_none.mpr hr]
  split <;> rfl

/-- No reset leaves the source enabled (R156). -/
theorem resetHvc_sourceOff (k : ResetKind) (h : Hvc) : (resetHvc k h).sourceOn = false := by
  cases k
  case work => cases hs : h.state <;> simp [resetHvc, ResetKind.isWork, Hvc.sourceOn, hs]
  all_goals rfl

/-- The lamp after a reset: lit by the bus alone (R131, R156). -/
theorem takeReset_hvc (k : ResetKind) (straps : BitVec 2) (s : State) :
    (takeReset k straps s).hvc = { resetHvc k s.hvc with lamp := decide (30000 < s.hvc.bus) } := by
  have hbus : (resetHvc k s.hvc).bus = s.hvc.bus := by cases k <;> rfl
  have hlamp : (takeReset k straps s).hvc = { resetHvc k s.hvc with
      lamp := decide (30000 < (resetHvc k s.hvc).bus) || (resetHvc k s.hvc).sourceOn } := rfl
  rw [hlamp, resetHvc_sourceOff, hbus, Bool.or_false]

/-- A reset, block by block (R203). -/
theorem takeReset_eq (k : ResetKind) (straps : BitVec 2) (s : State) :
    takeReset k straps s = { State.reset with
      pending := s.pending
      free := s.free
      mxc := resetMxc k s.mxc
      msu := resetMsu k s.msu
      hvc := { resetHvc k s.hvc with lamp := decide (30000 < s.hvc.bus) }
      nst := resetNst k s.nst
      rnc := resetRnc k s.rnc
      pre := resetPre k s.pre
      flk := resetFlk k straps s.flk
      resetting := some { kind := k, leftRun := s.rnc.state != .idle,
                          preChanged := (resetPre k s.pre).state != s.pre.state } } := by
  rw [← takeReset_hvc k straps s]
  rfl

/-- A pin reset is a command of its own: it is taken, and nothing else happens (R23). -/
theorem command_takeReset {k : ResetKind} {straps : BitVec 2} {s : State} (hk : k = .powerOn ∨ k = .pin) :
    command (takeReset k straps) s = .next (takeReset k straps s) := by
  have hserve : service (takeReset k straps s) = takeReset k straps s := service_idle (Or.inr (Or.inr rfl))
  have hreply : (takeReset k straps s).flk.reply = none := by rcases hk with rfl | rfl <;> rfl
  have hres : (takeReset k straps s).resetting ≠ none := Option.some_ne_none _
  rw [command, finish_takeReset hserve, transmit_resetting hres hreply]

/-- Settles O35: the reset itself, block by block. -/
theorem pinResetsTakeEveryBlockToDefaults : Obligations.PinResetsTakeEveryBlockToDefaults := by
  intro straps s
  have hpre : (PreState.disabled != s.pre.state) = (s.pre.state != .disabled) := by cases s.pre.state <;> rfl
  refine ⟨(command_takeReset (Or.inl rfl)).trans ?_, (command_takeReset (Or.inr rfl)).trans ?_⟩
  all_goals
    rw [takeReset_eq, ← hpre]
    rfl

/-- A requested reset is taken as the request is accepted, and its reply waits (R203). -/
theorem request_takeReset {i : Instr} {k : ResetKind} {s : State} (h : s.quiet)
    (hi : carryOut i s.taken = takeReset k s.flk.straps s.taken) :
    request i s = .next (takeReset k s.flk.straps s.taken) := by
  have hserve : service (submit (.ok i) s) = takeReset k s.flk.straps s.taken := (request_quiet i h).trans hi
  have hreply : (takeReset k s.flk.straps s.taken).flk.reply = none := by cases k <;> rfl
  have hres : (takeReset k s.flk.straps s.taken).resetting ≠ none := Option.some_ne_none _
  rw [request, command, finish_takeReset hserve, transmit_resetting hres hreply]

/-- Settles O36: the reset's blocks, read off. -/
theorem requestedResetsKeepWhatTheyShould : Obligations.RequestedResetsKeepWhatTheyShould := by
  intro s h
  have ⟨⟨_, hreq⟩, _, hwire, hreply, _⟩ := h
  refine ⟨⟨takeReset .all s.flk.straps s.taken, request_takeReset h rfl, ?_⟩,
    ⟨takeReset .work s.flk.straps s.taken, request_takeReset h rfl, ?_⟩⟩
  · rw [takeReset_eq]
    refine ⟨rfl, rfl, rfl, rfl, rfl, rfl, rfl, rfl, rfl, rfl, rfl, rfl, rfl, ?_, rfl, rfl, rfl, rfl, ?_⟩
    · simp [resetMxc]
    · simp [resetFlk, hreq, hwire, Flk.reset]
  · rw [takeReset_eq]
    refine ⟨rfl, rfl, rfl, rfl, rfl, rfl, rfl, rfl, rfl, rfl, rfl, rfl, rfl, ?_, rfl, ?_, rfl, rfl, rfl, rfl, ?_⟩
    · simp [resetMxc]
    · cases he : s.pre.enable <;> cases hd : s.pre.disPending <;> simp [resetPre, ResetKind.isWork, he, hd]
    · simp [resetFlk, hreq, hwire, hreply]

/-! ### After reset -/

/-- Settles O57: each law at the state after reset. -/
theorem resetMeetsTheLaws : Obligations.ResetMeetsTheLaws := by
  refine ⟨fun p hp => absurd rfl hp, nofun, nofun, nofun, fun _ => rfl, Nat.zero_le _, Nat.zero_le _,
    ⟨Nat.zero_le _, Nat.zero_le _, Nat.zero_le _⟩, ?_, ⟨fun _ h => absurd h List.not_mem_nil, fun _ h => by cases h⟩, Nat.zero_le _,
    fun _ h => by cases h⟩
  exact ⟨by decide, by decide, by decide, nofun⟩

end Sys2Proof.Machine
end

section
/-! PROOFS. The waits of a batch, and the acknowledge of a relay command: O42, O40. -/

namespace Sys2Proof

/-- A key that does not read as the default is listed, with its value. -/
theorem SMap.mem_of_get {α : Type} {d : α} {k : Nat} {m : SMap α} (h : SMap.get d k m ≠ d) : (k, SMap.get d k m) ∈ m := by
  induction m with
  | nil => exact absurd rfl h
  | cons e m ih =>
    obtain ⟨j, v⟩ := e
    by_cases hj : j = k
    · subst hj; simp [SMap.get]
    · simp only [SMap.get, hj, if_false] at h ⊢
      exact List.mem_cons_of_mem _ (ih h)

/-- In a table of canonical form an entry is what its key reads as. -/
theorem SMap.mem_iff_get {α : Type} [DecidableEq α] {d : α} {m : SMap α} (h : SMap.wf d m) (k : Nat) (v : α) :
    (k, v) ∈ m ↔ SMap.get d k m = v ∧ v ≠ d := by
  refine ⟨fun hm => ⟨?_, h.2 _ hm⟩, fun ⟨hg, hv⟩ => by
    subst hg; exact SMap.mem_of_get hv⟩
  obtain ⟨hasc, -⟩ := h
  induction m with
  | nil => cases hm
  | cons e m ih =>
    obtain ⟨j, w⟩ := e
    obtain ⟨hlt, hasc'⟩ := List.pairwise_cons.mp hasc
    rcases List.mem_cons.mp hm with he | hm
    · cases he; simp [SMap.get]
    · have hk : j < k := hlt k (List.mem_map.mpr ⟨_, hm, rfl⟩)
      simpa [SMap.get, hk.ne] using ih hm hasc'

end Sys2Proof

namespace Sys2Proof.Machine

/-- After an effect that leaves a calm state and ends no batch, only the frame link changes further. -/
theorem command_flk {f : State → State} {s t : State} (ht : f s = t) (hs : t.settled) (hr : t.flk.requests = [])
    (hb : t.mxc.batch = none → s.mxc.batch = none) : ∃ u, command f s = .next { t with flk := u } := by
  obtain ⟨u, hu⟩ := transmit_flk t
  exact ⟨u, (command_calm ht hs hr hb).trans (by rw [hu])⟩

theorem sideOf_eq_some {c : Conn} {side : Side} : sideOf c = some side ↔ c = connOf side := by
  cases c <;> cases side <;> simp [sideOf, connOf]

theorem connOf_ne_opn (side : Side) : connOf side ≠ .opn := by cases side <;> simp [connOf]

/-- A connection that is not OPEN is that of a side. -/
theorem exists_connOf {c : Conn} (h : c ≠ .opn) : ∃ side, c = connOf side := by
  cases c
  · exact absurd rfl h
  · exact ⟨.a, rfl⟩
  · exact ⟨.b, rfl⟩

/-! ### The phases of a batch -/

/-- The relays of a table of connections that a test picks, as commands. -/
def relayCmds (g : Nat → Conn → Bool) (m : SMap Conn) : List RelayCmd :=
  m.filterMap fun e =>
    match sideOf e.2 with
    | some side => if g e.1 e.2 then some { point := e.1, side := side : RelayCmd } else none
    | none => none

theorem mem_relayCmds {g : Nat → Conn → Bool} {m : SMap Conn} (h : SMap.wf .opn m) (p : Nat) (side : Side) :
    { point := p, side := side : RelayCmd } ∈ relayCmds g m ↔
      m.get .opn p = connOf side ∧ g p (connOf side) = true := by
  have hmem : ({ point := p, side := side : RelayCmd } ∈ relayCmds g m) ↔
      (p, connOf side) ∈ m ∧ g p (connOf side) = true := by
    simp only [relayCmds, List.mem_filterMap]
    constructor
    · rintro ⟨⟨q, c⟩, he, hc⟩
      cases hs : sideOf c with
      | none => simp [hs] at hc
      | some x =>
        obtain rfl := sideOf_eq_some.mp hs
        simp only [hs, Option.ite_none_right_eq_some, Option.some.injEq, RelayCmd.mk.injEq] at hc
        obtain ⟨hg, rfl, rfl⟩ := hc
        exact ⟨he, hg⟩
    · rintro ⟨he, hg⟩
      exact ⟨_, he, by simp [sideOf_eq_some.mpr rfl, hg]⟩
  rw [hmem, SMap.mem_iff_get h]
  simp [connOf_ne_opn]

/-- The relays the close phase commands (R15). -/
def closeCmds (b : Batch) (s : State) : List RelayCmd := relayCmds (fun p c => s.usable p && s.conn p != c) b.adj

/-- They are those of the usable points that the adjusted target wants closed and that are not (R15). -/
theorem mem_closeCmds {b : Batch} {s : State} (h : SMap.wf .opn b.adj) (p : Nat) (side : Side) :
    { point := p, side := side : RelayCmd } ∈ closeCmds b s ↔
      b.adj.get .opn p = connOf side ∧ s.usable p = true ∧ s.conn p ≠ connOf side := by
  simp [closeCmds, mem_relayCmds h]

/-- The close phase begins when a relay is to close (R15). -/
theorem beginClose_closing {b : Batch} {s : State} (ha : b.aborted = false) (hne : closeCmds b s ≠ []) :
    beginClose b s = setBatch { b with phase := .closing, cmds := closeCmds b s, phaseAcked := [], waitMs := 0 } s := by
  have h : beginClose b s = if b.aborted then beginReadback b s else if closeCmds b s = [] then beginReadback b s
      else setBatch { b with phase := .closing, cmds := closeCmds b s, phaseAcked := [], waitMs := 0 } s := rfl
  rw [h, ha, if_neg (by decide), if_neg hne]

theorem beginClose_aborted {b : Batch} {s : State} (ha : b.aborted = true) : beginClose b s = beginReadback b s := by
  rw [beginClose, if_pos ha]

theorem mem_stillPresent {s : State} {slots : List Nat} {k : Nat} :
    k ∈ stillPresent s slots ↔ k ∈ slots ∧ (s.card k).isPresent = true := by simp [stillPresent]

/-- Readback begins with the cards that acknowledged and are still PRESENT (R16). -/
theorem beginReadback_reads {b : Batch} {s : State} (hw : b.req.who ≠ .reset)
    (h : ∃ k ∈ b.acked, (s.card k).isPresent = true) :
    beginReadback b s = setBatch { b with phase := .readback, cmds := [], reads := stillPresent s b.acked } s := by
  have hne : stillPresent s b.acked ≠ [] := by
    obtain ⟨k, hk, hp⟩ := h
    exact List.ne_nil_of_mem (mem_stillPresent.mpr ⟨hk, hp⟩)
  simp only [beginReadback, if_neg hw, if_neg hne]

/-- A command whose effect is a batch in flight, in a calm state: but for the frame link, that effect alone. -/
theorem command_setBatch {f : State → State} {s : State} {b : Batch} (h : s.calm) (hf : f s = setBatch b s) :
    ∃ u, command f s = .next { setBatch b s with flk := u } :=
  command_flk hf h.1 h.2 nofun

theorem waitEnd_open {s : State} {b : Batch} (hb : s.mxc.batch = some b) (hp : b.phase = .openWait) :
    waitEnd .openWait s = beginClose b s := by simp [waitEnd, hb, hp]

theorem waitEnd_close {s : State} {b : Batch} (hb : s.mxc.batch = some b) (hp : b.phase = .closeWait) :
    waitEnd .closeWait s = beginReadback b s := by simp [waitEnd, hb, hp]

/-- Settles O42: the release wait leads to the close phase (`beginClose_closing`), or past it, and the operate wait to
readback (`beginReadback_reads`). -/
theorem phaseWaitsLeadOn : Obligations.PhaseWaitsLeadOn := by
  intro s b h hb hw
  refine ⟨fun hp ha hwf ⟨p, hu, hadj, hconn⟩ => ?_, fun hp hk => ?_⟩
  · obtain ⟨side, hside⟩ := exists_connOf hadj
    have hne : closeCmds b s ≠ [] :=
      List.ne_nil_of_mem ((mem_closeCmds hwf p side).mpr ⟨hside, hu, hside ▸ hconn⟩)
    obtain ⟨u, ht⟩ := command_setBatch h ((waitEnd_open hb hp).trans (beginClose_closing ha hne))
    exact ⟨_, _, ht, rfl, rfl, mem_closeCmds hwf, rfl, rfl, rfl⟩
  · have hread := beginReadback_reads hw hk
    rcases hp with ⟨hp, ha⟩ | hp
    · obtain ⟨u, ht⟩ := command_setBatch h ((waitEnd_open hb hp).trans ((beginClose_aborted ha).trans hread))
      rw [if_pos hp]
      exact ⟨_, _, ht, rfl, rfl, fun _ => mem_stillPresent, rfl, rfl, rfl⟩
    · obtain ⟨u, ht⟩ := command_setBatch h ((waitEnd_close hb hp).trans hread)
      rw [if_neg (by rw [hp]; decide)]
      exact ⟨_, _, ht, rfl, rfl, fun _ => mem_stillPresent, rfl, rfl, rfl⟩

/-! ### The acknowledge -/

/-- The largest of some times is the time of one of them. -/
theorem foldl_max_spec (ts : List Nat) (x : Nat) :
    (∀ y, y = x ∨ y ∈ ts → y ≤ ts.foldl max x) ∧ (ts.foldl max x = x ∨ ts.foldl max x ∈ ts) := by
  induction ts generalizing x with
  | nil => simp
  | cons t ts ih =>
    obtain ⟨hle, hmem⟩ := ih (max x t)
    have hmax := hle (max x t) (Or.inl rfl)
    simp only [List.foldl_cons, List.mem_cons]
    refine ⟨?_, ?_⟩
    · rintro y (rfl | rfl | hy)
      · omega
      · omega
      · exact hle y (Or.inr hy)
    · rcases hmem with h | h
      · rcases le_total x t with hx | hx
        · rw [max_eq_right hx] at h; exact Or.inr (Or.inl (by rw [max_eq_right hx]; exact h))
        · rw [max_eq_left hx] at h; exact Or.inl (by rw [max_eq_left hx]; exact h)
      · exact Or.inr (Or.inr h)

/-- The wait of a phase (R14, R15): no card that answers needs longer, and one needs as long. -/
theorem phaseWait_spec {f : Nat → Nat} {ks : List Nat} (hne : ks ≠ []) :
    (∀ k ∈ ks, f k ≤ (ks.map f).foldl max 0) ∧ ∃ k ∈ ks, (ks.map f).foldl max 0 = f k := by
  obtain ⟨hle, hmem⟩ := foldl_max_spec (ks.map f) 0
  refine ⟨fun k hk => hle _ (Or.inr (List.mem_map_of_mem hk)), ?_⟩
  rcases hmem with h | h
  · obtain ⟨k, hk⟩ := List.exists_mem_of_ne_nil ks hne
    have := hle _ (Or.inr (List.mem_map_of_mem (f := f) hk))
    exact ⟨k, hk, by omega⟩
  · obtain ⟨k, hk, hf⟩ := List.mem_map.mp h
    exact ⟨k, hk, hf.symm⟩

/-- The connections after an acknowledge of a command of the batch's phase (R14, R15). -/
def ackConn (opening : Bool) (point : Nat) (side : Side) (s : State) : SMap Conn :=
  if opening then (if s.conn point = connOf side then s.mxc.conn.set .opn point .opn else s.mxc.conn)
  else if s.usable point then s.mxc.conn.set .opn point (connOf side) else s.mxc.conn

/-- The batch after it (R14, R15). -/
def ackBatch (point : Nat) (side : Side) (b : Batch) : Batch :=
  { b with
    cmds := b.cmds.erase { point := point, side := side }
    phaseAcked := insertAsc (slotOf point) b.phaseAcked
    acked := insertAsc (slotOf point) b.acked }

theorem acknowledge_other {s : State} {p : Nat} {side : Side}
    (h : ∀ b, s.mxc.batch = some b → b.commanding = true → { point := p, side := side : RelayCmd } ∉ b.cmds) :
    acknowledge p side s = openAcknowledged p side s := by
  unfold acknowledge
  split
  · rfl
  · rename_i b hb
    refine if_pos ?_
    cases hc : b.commanding
    · rfl
    · simpa [hc] using h b hb hc

/-- An acknowledge of a command of the batch's phase: the connection, and the wait when it is the last (R14, R15). -/
theorem acknowledge_cmd {s : State} {b : Batch} {p : Nat} {side : Side} (hb : s.mxc.batch = some b)
    (hp : b.commanding = true) (hc : { point := p, side := side : RelayCmd } ∈ b.cmds) :
    acknowledge p side s =
      let t : State := { s with mxc := { s.mxc with conn := ackConn (b.phase == .opening) p side s } }
      if (ackBatch p side b).cmds = [] then phaseDone (ackBatch p side b) t else setBatch (ackBatch p side b) t := by
  unfold acknowledge ackConn ackBatch
  simp [hb, hp, hc]

/-- The phase's wait begins when a card that acknowledged in it is PRESENT (R14, R15). -/
theorem phaseDone_wait {b : Batch} {s : State} (h : ∃ k ∈ b.phaseAcked, (s.card k).isPresent = true) :
    phaseDone b s = setBatch { b with
      phase := if b.phase = .opening then .openWait else .closeWait
      waitMs := ((stillPresent s b.phaseAcked).map (phaseTime (b.phase == .opening) s)).foldl max 0 } s := by
  have hne : stillPresent s b.phaseAcked ≠ [] := by
    obtain ⟨k, hk, hp⟩ := h
    exact List.ne_nil_of_mem (mem_stillPresent.mpr ⟨hk, hp⟩)
  unfold phaseDone
  split
  · exact absurd ‹_› hne
  · simp

theorem phaseTime_present {s : State} {k : Nat} {d : Desc} (h : s.card k = .present d) (opening : Bool) :
    phaseTime opening s k = relayTime (if opening then d.release else d.operate) := by
  simp [phaseTime, h, Card.desc]

theorem commanding_of_phase {b : Batch} (h : b.phase = .opening ∨ b.phase = .closing) : b.commanding = true := by
  rcases h with h | h <;> simp [Batch.commanding, h]

theorem phase_of_commanding {b : Batch} (h : b.commanding = true) : b.phase = .opening ∨ b.phase = .closing := by
  simpa [Batch.commanding] using h

/-- The connections after an acknowledge, read (R14, R15). -/
theorem ackConn_get (b : Batch) (p q : Nat) (side : Side) (s : State) (hpr : s.present p = true) :
    SMap.get .opn q (ackConn (b.phase == .opening) p side s) =
      if q = p then
        if b.phase = .opening then (if s.conn p = connOf side then .opn else s.conn p)
        else if s.quar p = .none then connOf side else s.conn p
      else s.conn q := by
  unfold ackConn
  by_cases hq : q = p
  · subst hq
    by_cases ho : b.phase = .opening
    · by_cases hc : s.conn q = connOf side <;> simp [ho, hc, SMap.get_set]
      rfl
    · by_cases hu : s.quar q = .none <;> simp [ho, hu, State.usable, hpr, SMap.get_set]
      rfl
  · simp only [if_neg hq]
    repeat' split
    all_goals simp [SMap.get_set, hq, State.conn]

/-- Settles O40: the acknowledge of a command of the phase (`acknowledge_cmd`), the wait of the phase (`phaseDone_wait`,
`phaseWait_spec`), and any other acknowledge. -/
theorem acknowledgeRecordsTheConnection : Obligations.AcknowledgeRecordsTheConnection := by
  intro s p side h
  refine ⟨fun b d hb hp hc hd => ?_, fun hnone => ?_⟩
  · extract_lets time
    have hpr : s.present p = true := by simp [State.present, slotOf_eq, hd, Card.isAbsent]
    have hpresent : (s.card (p / 64)).isPresent = true := by rw [hd]; rfl
    have hack := acknowledge_cmd hb (commanding_of_phase hp) hc
    by_cases hlast : (ackBatch p side b).cmds = []
    · have hwait := phaseDone_wait (b := ackBatch p side b)
        (s := { s with mxc := { s.mxc with conn := ackConn (b.phase == .opening) p side s } })
        ⟨p / 64, (mem_insertAsc ..).mpr (Or.inl rfl), hpresent⟩
      obtain ⟨u, ht⟩ := command_flk (f := acknowledge p side) (hack.trans ((if_pos hlast).trans hwait)) h.1 h.2 nofun
      refine ⟨_, _, ht, rfl, fun q => ackConn_get b p q side s hpr, rfl, rfl, rfl, rfl, rfl, rfl, rfl,
        (mem_insertAsc ..).mpr (Or.inl rfl), fun hne => absurd hlast hne, fun _ => ⟨rfl, ?_⟩⟩
      have htime : ∀ k d, s.card k = .present d → time k = phaseTime (b.phase == .opening) s k := by
        intro k d hk
        rw [phaseTime_present hk]
        by_cases ho : b.phase = .opening <;> simp [time, hk, relayTime, ho]
      have hmem : ∀ k, k ∈ insertAsc (slotOf p) b.phaseAcked ↔ k = p / 64 ∨ k ∈ b.phaseAcked := fun k => mem_insertAsc ..
      obtain ⟨hle, k, hk, hmax⟩ := phaseWait_spec (f := phaseTime (b.phase == .opening) s)
        (List.ne_nil_of_mem (mem_stillPresent.mpr
          ⟨(hmem (p / 64)).mpr (Or.inl rfl), hpresent⟩ : p / 64 ∈ stillPresent s (insertAsc (slotOf p) b.phaseAcked)))
      refine ⟨fun k' hk' => ?_, k, (hmem k).mp (mem_stillPresent.mp hk).1, ?_⟩
      · cases hcard : s.card k' with
        | present d' =>
          rw [htime k' d' hcard]
          exact hle k' (mem_stillPresent.mpr ⟨(hmem k').mpr hk', by rw [hcard]; rfl⟩)
        | absent => simp [time, hcard]
        | lost d' => simp [time, hcard]
      · cases hcard : s.card k with
        | present d' => rw [htime k d' hcard]; exact hmax
        | absent => simp [mem_stillPresent, hcard, Card.isPresent] at hk
        | lost d' => simp [mem_stillPresent, hcard, Card.isPresent] at hk
    · obtain ⟨u, ht⟩ := command_flk (f := acknowledge p side) (hack.trans (if_neg hlast)) h.1 h.2 nofun
      exact ⟨_, _, ht, rfl, fun q => ackConn_get b p q side s hpr, rfl, rfl, rfl, rfl, rfl, rfl, rfl,
        (mem_insertAsc ..).mpr (Or.inl rfl), fun _ => rfl, fun hnil => absurd hnil hlast⟩
  · exact command_calm (acknowledge_other fun b hb hp => hnone b hb (phase_of_commanding hp)) h.1 h.2 id

end Sys2Proof.Machine
end

section
/-! PROOFS. A batch request is taken: the adjusted target, the exclusions, and the phase that begins: O39, O38. -/

namespace Sys2Proof.Machine

/-! ### The adjusted target and the exclusions (R10) -/

/-- A table made of a list of keys, each with the value it has or none. -/
theorem get_filterMap_keys {α : Type} (d : α) (f : Nat → Option α) (ks : List Nat) (k : Nat) :
    SMap.get d k (ks.filterMap fun p => (f p).map fun v => (p, v)) = if k ∈ ks then (f k).getD d else d := by
  induction ks with
  | nil => rfl
  | cons j ks ih =>
    cases hf : f j with
    | none =>
      rw [List.filterMap_cons_none (by simp [hf]), ih]
      by_cases hj : k = j
      · subst hj; simp [hf]
      · simp [hj]
    | some v =>
      rw [List.filterMap_cons_some (b := (j, v)) (by simp [hf])]
      by_cases hj : k = j
      · subst hj; simp [SMap.get, hf]
      · simp [SMap.get, hj, Ne.symm hj, ih]

theorem mem_named {r : BatchReq} {p : Nat} : p ∈ r.named ↔ p ∈ r.a ∨ p ∈ r.b := by
  rw [BatchReq.named, (sortAsc_spec _).2]; simp

/-- The connection a request wants of a point, as far as the point is usable (R10). -/
def BatchReq.goal (r : BatchReq) (s : State) (p : Nat) : Conn :=
  if s.usable p = true then (if p ∈ r.a then .a else if p ∈ r.b then .b else .opn) else .opn

theorem excludePoint_fst (s : State) (r : BatchReq) (p : Nat) (hn : p ∈ r.a ∨ p ∈ r.b) :
    ((excludePoint s r p).1).getD .opn = r.goal s p := by
  cases hp : s.present p
  · simp [excludePoint, BatchReq.goal, State.usable, hp]
  · by_cases hq : s.quar p = .none
    · by_cases ha : p ∈ r.a
      · simp [excludePoint, BatchReq.goal, State.usable, hp, hq, ha]
      · simp [excludePoint, BatchReq.goal, State.usable, hp, hq, ha, hn.resolve_left ha]
    · simp [excludePoint, BatchReq.goal, State.usable, hp, hq]

theorem excludePoint_ne_opn (s : State) (r : BatchReq) (p : Nat) : (excludePoint s r p).1 ≠ some .opn := by
  by_cases ha : p ∈ r.a <;> simp only [excludePoint, List.contains_eq_mem, ha] <;> repeat' split
  all_goals simp

/-- The adjusted target, read (R10). -/
theorem adjusted_get (s : State) (r : BatchReq) (p : Nat) : (adjusted s r).get .opn p = r.goal s p := by
  simp only [adjusted, get_filterMap_keys, mem_named]
  by_cases hn : p ∈ r.a ∨ p ∈ r.b
  · rw [if_pos hn, excludePoint_fst s r p hn]
  · obtain ⟨ha, hb⟩ := not_or.mp hn
    rw [if_neg hn]
    simp [BatchReq.goal, ha, hb]

theorem adjusted_wf (s : State) (r : BatchReq) : SMap.wf .opn (adjusted s r) := by
  constructor
  · have hsub : ∀ ks : List Nat, ((ks.filterMap fun p => (excludePoint s r p).1.map fun c => (p, c)).map Prod.fst).Sublist ks := by
      intro ks
      induction ks with
      | nil => exact .slnil
      | cons k ks ih =>
        cases he : (excludePoint s r k).1 with
        | none => rw [List.filterMap_cons_none (by simp [he])]; exact ih.cons k
        | some c => rw [List.filterMap_cons_some (b := (k, c)) (by simp [he])]; exact ih.cons_cons k
    exact ((sortAsc_spec _).1).sublist (hsub _)
  · intro e he
    obtain ⟨p, -, hp⟩ := List.mem_filterMap.mp he
    obtain ⟨c, hc, rfl⟩ := Option.map_eq_some_iff.mp hp
    rintro rfl
    exact excludePoint_ne_opn s r p hc

/-- What is excluded, and why (R10): the sides that name an absent or a quarantined point, and side B of a usable point
named on both. -/
def BatchReq.excludes (r : BatchReq) (s : State) (x : Excl) : Prop :=
  ((x.side = .a ∧ x.point ∈ r.a ∨ x.side = .b ∧ x.point ∈ r.b) ∧
    (s.present x.point = false ∧ x.reason = .absent ∨
      s.present x.point = true ∧ s.quar x.point ≠ .none ∧ x.reason = .quarantined)) ∨
  (s.usable x.point = true ∧ x.point ∈ r.a ∧ x.point ∈ r.b ∧ x.side = .b ∧ x.reason = .bothSides)

theorem mem_excludePoint (s : State) (r : BatchReq) (p : Nat) (x : Excl) :
    x ∈ (excludePoint s r p).2 ↔ x.point = p ∧ r.excludes s x := by
  obtain ⟨q, side, why⟩ := x
  by_cases hq : q = p
  · subst hq
    cases hp : s.present q
    · by_cases ha : q ∈ r.a <;> by_cases hb : q ∈ r.b <;> cases side <;>
        simp [excludePoint, BatchReq.excludes, State.usable, hp, ha, hb]
    · by_cases hn : s.quar q = .none
      · by_cases ha : q ∈ r.a <;> by_cases hb : q ∈ r.b <;> cases side <;>
          simp [excludePoint, BatchReq.excludes, State.usable, hp, hn, ha, hb]
      · by_cases ha : q ∈ r.a <;> by_cases hb : q ∈ r.b <;> cases side <;>
          simp [excludePoint, BatchReq.excludes, State.usable, hp, hn, ha, hb]
  · simp only [hq, false_and, iff_false]
    by_cases ha : p ∈ r.a <;> by_cases hb : p ∈ r.b <;> cases hp : s.present p <;> by_cases hn : s.quar p = .none <;>
      simp [excludePoint, hp, hn, ha, hb, hq]

/-- The excluded list (R10). -/
theorem mem_exclusions (s : State) (r : BatchReq) (x : Excl) : x ∈ exclusions s r ↔ r.excludes s x := by
  simp only [exclusions, List.mem_flatMap, mem_excludePoint, mem_named]
  constructor
  · rintro ⟨p, -, rfl, hx⟩; exact hx
  · intro hx
    refine ⟨x.point, ?_, rfl, hx⟩
    rcases hx with ⟨⟨-, ha⟩ | ⟨-, hb⟩, -⟩ | ⟨-, ha, -⟩
    · exact Or.inl ha
    · exact Or.inr hb
    · exact Or.inl ha

/-- A target is met when every point has its connection (R11). -/
theorem unchanged_iff (adj : SMap Conn) (s : State) : unchanged adj s = true ↔ ∀ p, s.conn p = adj.get .opn p := by
  simp only [unchanged, List.all_eq_true, beq_iff_eq, List.mem_append, List.mem_map]
  refine ⟨fun h p => ?_, fun h p _ => h p⟩
  by_cases hc : s.conn p = .opn
  · by_cases ha : adj.get .opn p = .opn
    · exact hc.trans ha.symm
    · exact h p (Or.inr ⟨_, SMap.mem_of_get ha, rfl⟩)
  · exact h p (Or.inl ⟨_, SMap.mem_of_get hc, rfl⟩)

/-! ### The first held request -/

theorem takeHeld_batch {s : State} (h : s.mxc.batch ≠ none) (n : Nat) : takeHeld n s = s := by
  cases n with
  | zero => rfl
  | succ n => simp [takeHeld, Option.isSome_iff_ne_none.mpr h]

/-- BATCH_REQUEST takes the first held request, and what is behind it only if that one settles at once (R9, R20). -/
theorem batchTake_first {s : State} {r : BatchReq} {rest : List BatchReq} (hh : s.mxc.held = r :: rest)
    (hb : s.mxc.batch = none) (hs : s.mxc.scan = none) :
    batchTake s = takeHeld rest.length (takeBatch r { s with mxc := { s.mxc with held := rest } }) := by
  simp [batchTake, hh, takeHeld, hb, hs]

/-- The teardown has settled, no summary slot waiting for it: the run is ENDED (R105). -/
theorem settle_teardown {s : State} {b : Batch} (res : BatchResult) (hw : b.req.who = .teardown)
    (hr : s.rnc.state = .ending) (hp : s.pre.slots = []) :
    ∃ q, settle res b s = { s with
      mxc := { s.mxc with batch := none }
      rnc := { s.rnc with state := .ended }
      flk := { s.flk with notices := q } } := by
  have hpre : { s.pre with slots := s.pre.slots.map fun t => if t.runNo = s.rnc.runNo then
      { t with ended := some { verdict := s.rnc.verdict, reason := s.rnc.reason, counts := s.rnc.counts,
                               total := s.rnc.total } } else t } = s.pre := by rw [hp, List.map_nil, ← hp]
  obtain ⟨q, hq⟩ := raise_spec .run (nRunPayload { s with
      mxc := { s.mxc with batch := none }, rnc := { s.rnc with state := .ended } })
    { s with mxc := { s.mxc with batch := none }, rnc := { s.rnc with state := .ended } }
  refine ⟨q, ?_⟩
  rw [← hq, settle, hw]
  simp only [deliver, hr, if_true, runEnded, slotEnded, raiseRun]
  rw [show s.pre = _ from hpre.symm]
  simp [hp]

/-- A batch settles as it is taken when the discharge-fault latch is set, or when it would change nothing (R11, R12). -/
theorem takeBatch_settles {s : State} {r : BatchReq}
    (h : s.hvc.dischLatch = true ∨ r.who ≠ .reset ∧ ∀ p, s.conn p = r.goal s p) :
    ∃ res, takeBatch r s = settle res (freshBatch r s) s := by
  cases hl : s.hvc.dischLatch
  · obtain ⟨hwho, hall⟩ := h.resolve_left (by simp [hl])
    have hu : unchanged (freshBatch r s).adj s = true :=
      (unchanged_iff ..).mpr fun p => (hall p).trans (adjusted_get ..).symm
    exact ⟨.ok, by simp [takeBatch, hl, hwho, hu]⟩
  · exact ⟨.frozen, by simp [takeBatch, hl]⟩

/-- Any other batch goes on to its precondition (R12). -/
theorem takeBatch_precondition {s : State} {r : BatchReq} (hl : s.hvc.dischLatch = false)
    (h : r.who = .reset ∨ ∃ p, s.conn p ≠ r.goal s p) : takeBatch r s = precondition (freshBatch r s) s := by
  by_cases hwho : r.who = .reset
  · simp [takeBatch, hl, hwho]
  · obtain ⟨p, hp⟩ := h.resolve_left hwho
    have hu : unchanged (freshBatch r s).adj s = false :=
      Bool.eq_false_iff.mpr fun hu => hp (((unchanged_iff ..).mp hu p).trans (adjusted_get ..))
    simp [takeBatch, hl, hu]

/-- With no gate open, in OFF on a bus that is not safe, the batch waits for the discharge it asks for (R12, R137). -/
theorem precondition_wait {s : State} (b : Batch) (hl : s.hvc.dischLatch = false) (hw : s.msu.window = none)
    (ho : s.hvc.state = .off) (hv : 30000 < s.hvc.bus) :
    precondition b s = setBatch b
      { enterDischarge s with hvc := { (enterDischarge s).hvc with waiters := s.hvc.waiters ++ [.mxc] } } := by
  have hclose : closeGate s = s := by simp [closeGate, hw]
  have hstill : s.busStill = false := by simp [State.busStill, Config.safeBus, Nat.not_le.mpr hv]
  have hdis : disable .mxc s = (.wait,
      { enterDischarge s with hvc := { (enterDischarge s).hvc with waiters := s.hvc.waiters ++ [.mxc] } }) := by
    simp only [disable, ho, Config.safeBus, Nat.not_le.mpr hv, hl, if_false, Bool.false_eq_true]
    simp [enterDischarge_spec]
  simp [precondition, hclose, hstill, hdis]

/-- Settles O39: the teardown settles (`takeBatch_settles`, `settle_teardown`), or waits (`precondition_wait`). -/
theorem batchRequestMayFreezeSettleOrWait : Obligations.BatchRequestMayFreezeSettleOrWait := by
  intro s r h hh hb hs hr
  have hfirst := batchTake_first hh hb hs
  have hwho : r.who = .teardown := by rw [hr]
  have hgoal : ∀ p, r.goal s p = .opn := by intro p; simp [hr, BatchReq.goal]
  refine ⟨fun hor hrun hpre => ?_, fun hl ⟨p, hp⟩ hw ho hv => ?_⟩
  · obtain ⟨res, htake⟩ := takeBatch_settles (s := { s with mxc := { s.mxc with held := [] } }) (r := r)
      (hor.imp id fun hall => ⟨by rw [hwho]; decide, fun p => (hall p).trans (hgoal p).symm⟩)
    obtain ⟨q, hq⟩ := settle_teardown (s := { s with mxc := { s.mxc with held := [] } })
      (b := freshBatch r { s with mxc := { s.mxc with held := [] } }) res hwho hrun hpre
    obtain ⟨u, hu⟩ := command_flk (hfirst.trans (htake.trans hq)) h.1 h.2 fun _ => hb
    exact ⟨_, hu, rfl, rfl, rfl, rfl, rfl, rfl⟩
  · have htake := takeBatch_precondition (s := { s with mxc := { s.mxc with held := [] } }) (r := r) hl
      (Or.inr ⟨p, fun he => hp (he.trans (hgoal p))⟩)
    have hwait := precondition_wait (s := { s with mxc := { s.mxc with held := [] } })
      (freshBatch r { s with mxc := { s.mxc with held := [] } }) hl hw ho hv
    rw [enterDischarge_spec] at hwait
    obtain ⟨htodo, hprint, hstream, hstruck⟩ := h.1
    obtain ⟨u, hu⟩ := command_flk (hfirst.trans (htake.trans hwait))
      ⟨htodo, hprint, hstream, fun hst => by simpa [Hvc.energised, ho] using hstruck hst⟩ h.2 nofun
    exact ⟨_, _, hu, rfl, rfl, rfl, rfl, rfl, rfl, rfl⟩

/-! ### The open phase and the close phase begin -/

/-- Closing an open gate changes nothing else when no engine measures through it (R33). -/
theorem closeGate_unowned {s : State} (h : s.msu.window = none ∨
    ∃ w j, s.msu.window = some w ∧ w.owner = .wte ∧ s.wte = some j ∧ j.phase = .connecting) :
    closeGate s = { s with msu := { s.msu with window := none } } := by
  rcases h with h | ⟨w, j, h, ho, hj, hp⟩
  · simp only [closeGate, h]
    rw [← h]
  · simp [closeGate, h, windowLost, ho, wteWindowLost, hj, hp]

/-- The state in which a held request is taken at once: off the list, and an open gate closed (R9, R12). -/
def State.cleared (rest : List BatchReq) (s : State) : State :=
  { s with mxc := { s.mxc with held := rest }, msu := { s.msu with window := none } }

/-- On a safe bus the precondition holds, and the phase that begins is all that happens (R12 to R15). -/
theorem batchRequest_begins {s : State} {r : BatchReq} {rest : List BatchReq} {b : Batch} (h : s.calm)
    (hh : s.mxc.held = r :: rest) (hb : s.mxc.batch = none) (hs : s.mxc.scan = none) (hl : s.hvc.dischLatch = false)
    (hsrc : s.hvc.sourceOn = false) (hbus : s.hvc.bus ≤ 30000)
    (hw : s.msu.window = none ∨
      ∃ w j, s.msu.window = some w ∧ w.owner = .wte ∧ s.wte = some j ∧ j.phase = .connecting)
    (hch : r.who = .reset ∨ ∃ p, s.conn p ≠ r.goal s p)
    (hbegin : beginOpen (freshBatch r s) (s.cleared rest) = setBatch b (s.cleared rest)) :
    ∃ u, command batchTake s = .next { setBatch b (s.cleared rest) with flk := u } := by
  have htake := takeBatch_precondition (s := { s with mxc := { s.mxc with held := rest } }) (r := r) hl hch
  have hclose := closeGate_unowned (s := { s with mxc := { s.mxc with held := rest } }) hw
  have hpre : precondition (freshBatch r s) { s with mxc := { s.mxc with held := rest } } = setBatch b (s.cleared rest) := by
    rw [precondition, hclose]
    refine Eq.trans (if_pos ?_) hbegin
    simp [State.busStill, hsrc, hbus, Config.safeBus]
  have hfirst : batchTake s = setBatch b (s.cleared rest) := by
    rw [batchTake_first hh hb hs, htake]
    exact (congrArg _ hpre).trans (takeHeld_batch (Option.some_ne_none b) _)
  exact command_flk hfirst h.1 h.2 nofun

/-- The open phase begins when a relay is to open (R14). -/
theorem beginOpen_opening {b : Batch} {s : State} (h : openCmds b s ≠ []) :
    beginOpen b s = setBatch { b with phase := .opening, cmds := openCmds b s, phaseAcked := [], waitMs := 0 } s := by
  simp only [beginOpen, if_neg h]

/-- The relays that open are those recorded closed that the adjusted target requires open (R14). -/
theorem mem_openCmds {b : Batch} {s : State} (hw : b.req.who ≠ .reset) (h : SMap.wf .opn s.mxc.conn) (p : Nat) (side : Side) :
    { point := p, side := side : RelayCmd } ∈ openCmds b s ↔ s.conn p = connOf side ∧ b.adj.get .opn p ≠ s.conn p := by
  have he : openCmds b s = relayCmds (fun p c => b.adj.get .opn p != c) s.mxc.conn := if_neg hw
  rw [he, mem_relayCmds h]
  constructor
  · rintro ⟨hc, hne⟩; exact ⟨hc, by rw [State.conn, hc]; simpa using hne⟩
  · rintro ⟨hc, hne⟩; exact ⟨hc, by rw [← hc]; simpa using hne⟩

theorem mem_bothRelays {c : RelayCmd} {ps : List Nat} : c ∈ bothRelays ps ↔ c.point ∈ ps := by
  obtain ⟨p, side⟩ := c
  cases side <;> simp [bothRelays]

theorem mem_presentSlots {s : State} (h : SMap.wf .absent s.mxc.cards) (k : Nat) :
    k ∈ s.presentSlots ↔ (s.card k).isPresent = true := by
  simp only [State.presentSlots, List.mem_map, List.mem_filter]
  constructor
  · rintro ⟨⟨j, c⟩, ⟨hm, hc⟩, rfl⟩
    rw [State.card, ((SMap.mem_iff_get h j c).mp hm).1]
    exact hc
  · intro hc
    exact ⟨(k, s.card k), ⟨(SMap.mem_iff_get h k _).mpr ⟨rfl, fun he => by simp [he, Card.isPresent] at hc⟩, hc⟩, rfl⟩

/-- The reset batch opens both relays of every point of every PRESENT card (R24). -/
theorem mem_openCmds_reset {b : Batch} {s : State} (hw : b.req.who = .reset) (h : SMap.wf .absent s.mxc.cards) (p : Nat)
    (side : Side) :
    { point := p, side := side : RelayCmd } ∈ openCmds b s ↔ (s.card (p / 64)).isPresent = true := by
  have he : openCmds b s = s.presentSlots.flatMap fun k => bothRelays (cardPoints k) := if_pos hw
  simp [he, mem_presentSlots h, mem_bothRelays, mem_cardPoints]

/-- Settles O38: what happens as the phase begins (`batchRequest_begins`), and the relays each phase commands. -/
theorem batchRequestBeginsTheOpenPhase : Obligations.BatchRequestBeginsTheOpenPhase := by
  intro s r rest h hh hb hs hl hsrc hbus hwf hw
  extract_lets goal _ taken
  have htaken : ∀ (u : Flk) (phase : BatchPhase) (cmds : List RelayCmd),
      taken { setBatch { freshBatch r s with phase := phase, cmds := cmds, phaseAcked := [], waitMs := 0 }
        (s.cleared rest) with flk := u } { freshBatch r s with phase := phase, cmds := cmds, phaseAcked := [], waitMs := 0 } :=
    fun u phase cmds => ⟨rfl, rfl, rfl, adjusted_get s r, mem_exclusions s r, rfl, rfl, rfl, rfl, rfl, rfl, rfl, rfl, rfl, rfl⟩
  have hadj : ∀ p, (freshBatch r s).adj.get .opn p = goal p := adjusted_get s r
  refine ⟨fun hwho ⟨p, hp, hg⟩ => ?_, fun hwho hall ⟨p, hg⟩ => ?_, fun hr hcards ⟨k, d, hk⟩ => ?_⟩
  · have hmem := mem_openCmds (b := freshBatch r s) (s := s.cleared rest) hwho hwf
    obtain ⟨side, hside⟩ := exists_connOf hp
    have hne := List.ne_nil_of_mem ((hmem p side).mpr ⟨hside, fun he => hg (he.symm.trans (hadj p))⟩)
    obtain ⟨u, hu⟩ := batchRequest_begins h hh hb hs hl hsrc hbus hw (Or.inr ⟨p, hg⟩) (beginOpen_opening hne)
    exact ⟨_, _, hu, htaken .., rfl, fun p side => (hmem p side).trans (by rw [hadj p]; rfl)⟩
  · have hnone : openCmds (freshBatch r s) (s.cleared rest) = [] := by
      refine List.eq_nil_iff_forall_not_mem.mpr fun ⟨q, side⟩ hq => ?_
      obtain ⟨hc, hne⟩ := (mem_openCmds hwho hwf q side).mp hq
      rcases hall q with ho | hg
      · exact connOf_ne_opn side (hc.symm.trans ho)
      · exact hne ((hadj q).trans hg.symm)
    have hmem : ∀ q side, ({ point := q, side := side : RelayCmd } ∈ closeCmds (freshBatch r s) (s.cleared rest)) ↔
        goal q = connOf side ∧ s.conn q ≠ connOf side := by
      intro q side
      rw [mem_closeCmds (adjusted_wf s r) q side, hadj q]
      refine ⟨fun ⟨hc, _, hne⟩ => ⟨hc, hne⟩, fun ⟨hc, hne⟩ => ⟨hc, ?_, hne⟩⟩
      by_contra hu
      exact connOf_ne_opn side (hc.symm.trans (if_neg hu))
    obtain ⟨side, hside⟩ := exists_connOf (c := goal p) fun he => (hall p).elim (fun ho => hg (ho.trans he.symm)) hg
    have hne := List.ne_nil_of_mem ((hmem p side).mpr ⟨hside, hside ▸ hg⟩)
    have hbegin : beginOpen (freshBatch r s) (s.cleared rest) = setBatch _ (s.cleared rest) :=
      (if_pos hnone).trans (beginClose_closing rfl hne)
    obtain ⟨u, hu⟩ := batchRequest_begins h hh hb hs hl hsrc hbus hw (Or.inr ⟨p, hg⟩) hbegin
    exact ⟨_, _, hu, htaken .., rfl, hmem⟩
  · have hwho : r.who = .reset := by rw [hr]
    have hmem := mem_openCmds_reset (b := freshBatch r s) (s := s.cleared rest) hwho hcards
    have hne := List.ne_nil_of_mem ((hmem (k * 64) .a).mpr (by
      rw [Nat.mul_div_cancel k (by decide)]; exact (congrArg Card.isPresent hk).trans rfl))
    obtain ⟨u, hu⟩ := batchRequest_begins h hh hb hs hl hsrc hbus hw (Or.inl hwho) (beginOpen_opening hne)
    exact ⟨_, _, hu, htaken .., rfl, hmem⟩

end Sys2Proof.Machine
end

section
/-! PROOFS. The card scan: O37. -/

namespace Sys2Proof

/-- A key whose entry a filter takes out reads as the default. -/
theorem SMap.get_filter_out {α : Type} [DecidableEq α] {d : α} {k : Nat} {f : Nat × α → Bool} {m : SMap α}
    (h : SMap.wf d m) (hf : f (k, SMap.get d k m) = false) : SMap.get d k (m.filter f) = d := by
  by_contra hne
  obtain ⟨hm, hk⟩ := List.mem_filter.mp (SMap.mem_of_get hne)
  rw [((SMap.mem_iff_get h k _).mp hm).1] at hf
  exact absurd hk (by rw [hf]; decide)

end Sys2Proof

namespace Sys2Proof.Machine

/-- During a reset the transmitter may send a reply; the notices wait, and with them the lost since set (R203). -/
theorem transmit_duringReset {s : State} (hr : s.resetting ≠ none) :
    ∃ u, transmit s = { s with flk := u } ∧ u.notices = s.flk.notices ∧ u.lostSince = s.flk.lostSince := by
  unfold transmit
  split
  · exact ⟨s.flk, rfl, rfl, rfl⟩
  · split
    · exact ⟨_, rfl, rfl, rfl⟩
    · rw [if_pos (Option.isSome_iff_ne_none.mpr hr)]
      exact ⟨s.flk, rfl, rfl, rfl⟩

theorem mem_coalesce (n : Notice) (q : List Notice) : n ∈ coalesce n q := by
  unfold coalesce
  split
  · obtain ⟨m, hm, hk⟩ := List.any_eq_true.mp ‹_›
    exact List.mem_map.mpr ⟨m, hm, if_pos (by simpa using hk)⟩
  · simp

/-- N-CARD is queued while its class is on, and the queue stays while it is off (R199, R200). -/
theorem raiseCard_eq (s : State) :
    ∃ q, raiseCard s = { s with flk := { s.flk with notices := q } } ∧
      (s.flk.classCard = true → { kind := .card, payload := cardPayload s : Notice } ∈ q) ∧
      (s.flk.classCard = false → q = s.flk.notices) := by
  cases hc : s.flk.classCard
  · have he : raiseCard s = s := if_neg (by simp [Flk.classOn, hc])
    exact ⟨s.flk.notices, he, nofun, fun _ => rfl⟩
  · exact ⟨coalesce { kind := .card, payload := cardPayload s } s.flk.notices,
      by simp [raiseCard, raise, Flk.classOn, hc], fun _ => mem_coalesce _ _, nofun⟩

/-- Clearing CARD_LOST on a slot (R24). -/
theorem clearLost_quar {k : Nat} {s : State} (h : SMap.wf .none s.mxc.quar) (p : Nat) :
    (clearLost k s).quar p = if p / 64 = k ∧ s.quar p = .cardLost then .none else s.quar p := by
  by_cases hp : p / 64 = k ∧ s.quar p = .cardLost
  · rw [if_pos hp]
    obtain ⟨hk, hq⟩ := hp
    refine SMap.get_filter_out h ?_
    rw [show SMap.get .none p s.mxc.quar = .cardLost from hq]
    simp [slotOf_eq, hk]
  · rw [if_neg hp]
    exact clearLost_quar_same (not_and_or.mp hp)

/-- The slot probed changes the card table and the point table alone (R2). -/
theorem scanSlot_mxc (d : Option Desc) (k : Nat) (s : State) :
    ∃ m, scanSlot d k s = { s with mxc := m } ∧ m.held = s.mxc.held ∧ m.batch = s.mxc.batch := by
  cases d
  · exact ⟨_, rfl, rfl, rfl⟩
  · exact ⟨_, rfl, rfl, rfl⟩

/-- A slot made ABSENT has its points recorded OPEN (R2). -/
theorem scanSlot_none_conn (k p : Nat) (s : State) :
    (scanSlot none k s).conn p = if p / 64 = k then .opn else s.conn p := by
  rw [scanSlot, openCard_conn_get]; rfl

/-- Before slot 63 the scan goes on to the next slot (R2). -/
theorem scanned_next {d : Option Desc} {sc : Scan} {s : State} {m : Mxc} (hm : scanSlot d sc.slot s = { s with mxc := m })
    (h : sc.slot < 63) :
    scanned d sc s = { s with mxc := { m with scan := some { sc with slot := sc.slot + 1 } } } := by
  rw [scanned_eq, if_pos (by simp only [Config.slots]; omega), hm]

/-- After slot 63 the scan has ended: the reset batch, and N-CARD if a slot was LOST (R24, R25). -/
theorem scanned_last {d : Option Desc} {sc : Scan} {s : State} {m : Mxc} (hm : scanSlot d sc.slot s = { s with mxc := m })
    (h : sc.slot = 63) :
    ∃ q, scanned d sc s = { s with
        mxc := { m with scan := none, held := { a := [], b := [], run := false, who := .reset } :: m.held }
        flk := { s.flk with notices := q } } ∧
      (sc.hadLost = true → s.flk.classCard = true →
        { kind := .card, payload := slotSet { s with mxc := m }.lostSlots ++ slotSet s.flk.lostSince : Notice } ∈ q) ∧
      (sc.hadLost = false → q = s.flk.notices) := by
  rw [scanned_eq, if_neg (by simp only [Config.slots]; omega), hm]
  cases hl : sc.hadLost
  · exact ⟨s.flk.notices, rfl, nofun, fun _ => rfl⟩
  · obtain ⟨q, hq, hcard, -⟩ := raiseCard_eq { s with mxc := { m with scan := none } }
    exact ⟨q, congrArg requestReset hq, fun _ => hcard, nofun⟩

/-- What follows a slot's answer (R2, R24, R25): the next slot, or the reset batch and the notice. -/
def ScanGoesOn (sc : Scan) (s t : State) : Prop :=
  (sc.slot < 63 → t.mxc.scan = some { sc with slot := sc.slot + 1 } ∧ t.mxc.held = s.mxc.held ∧
    t.flk.lostSince = s.flk.lostSince) ∧
  (sc.slot = 63 → t.mxc.scan = none ∧
    t.mxc.held = { a := [], b := [], run := false, who := .reset } :: s.mxc.held ∧
    (sc.hadLost = true → s.flk.classCard = true →
      { kind := .card, payload := slotSet t.lostSlots ++ slotSet s.flk.lostSince : Notice } ∈ t.flk.notices) ∧
    (sc.hadLost = false → t.flk.notices = s.flk.notices)) ∧
  t.rnc = s.rnc ∧ t.hvc = s.hvc ∧ t.nst = s.nst

/-- A command during a reset whose effect is on the matrix and the notices: nothing else, but that a reply may be sent. -/
theorem command_duringReset {f : State → State} {s : State} {m : Mxc} {q : List Notice} (h : s.calm)
    (hr : s.resetting ≠ none) (hb : s.mxc.batch = none)
    (hf : f s = { s with mxc := m, flk := { s.flk with notices := q } }) :
    ∃ u, command f s = .next { s with mxc := m, flk := u } ∧ u.notices = q ∧ u.lostSince = s.flk.lostSince := by
  obtain ⟨u, hu, hn, hl⟩ := transmit_duringReset (s := { s with mxc := m, flk := { s.flk with notices := q } }) hr
  exact ⟨u, (command_calm hf h.1 h.2 fun _ => hb).trans (by rw [hu]), hn, hl⟩

/-- A probe's answer, or none, in a calm state: the slot probed, and what follows. -/
theorem command_scanned {f : State → State} {s : State} {sc : Scan} {d : Option Desc} (h : s.calm) (hlaw : s.scanLaw)
    (hsc : s.mxc.scan = some sc) (hf : f s = scanned d sc s) :
    ∃ t, command f s = .next t ∧ t.mxc.cards = (scanSlot d sc.slot s).mxc.cards ∧
      t.mxc.conn = (scanSlot d sc.slot s).mxc.conn ∧ t.mxc.quar = (scanSlot d sc.slot s).mxc.quar ∧ ScanGoesOn sc s t := by
  obtain ⟨hslot, hr, hb⟩ := hlaw sc hsc
  obtain ⟨m, hm, hheld, hbatch⟩ := scanSlot_mxc d sc.slot s
  rw [hm]
  by_cases hlt : sc.slot < 63
  · obtain ⟨u, hu, hn, hl⟩ := command_duringReset (q := s.flk.notices) h hr hb (hf.trans (scanned_next hm hlt))
    exact ⟨_, hu, rfl, rfl, rfl, fun _ => ⟨rfl, hheld, hl⟩, fun h63 => absurd h63 hlt.ne, rfl, rfl, rfl⟩
  · have h63 : sc.slot = 63 := by simp only [Config.slots] at hslot; omega
    obtain ⟨q, hq, hcard, hsame⟩ := scanned_last hm h63
    obtain ⟨u, hu, hn, hl⟩ := command_duringReset h hr hb (hf.trans hq)
    exact ⟨_, hu, rfl, rfl, rfl, fun hlt' => absurd hlt' hlt,
      fun _ => ⟨rfl, congrArg _ hheld, fun h1 h2 => hn ▸ hcard h1 h2, fun h1 => hn.trans (hsame h1)⟩, rfl, rfl, rfl⟩

/-- A descriptor is not accepted without a known type, the slot probed, a passed check, or the type's rating (R3). -/
theorem accepted_eq_none {d : Answer} {k : Nat} {ok : Bool} (h : d.ctype = none ∨ d.slot ≠ k ∨ ok = false ∨
    (d.ctype = some .low ∧ d.rating ≠ 100) ∨ (d.ctype = some .high ∧ d.rating ≠ 1500)) : accepted d k ok = none := by
  rcases h with h | h | h | ⟨h, hr⟩ | ⟨h, hr⟩
  · simp [accepted, h]
  · cases hc : d.ctype <;> simp [accepted, hc, h]
  · cases hc : d.ctype <;> simp [accepted, hc, h]
  · simp [accepted, h, hr]
  · simp [accepted, h, hr]

/-- Settles O37: the slot probed (`scanSlot_card`, `clearLost_quar`), and what follows it (`command_scanned`). -/
theorem scanRecordsEachSlot : Obligations.ScanRecordsEachSlot := by
  intro s sc d ok h hlaw hsc hwf
  extract_lets goneOn absentFrom
  have hstep : ∀ g : Nat → Option Desc, scanStep g s = scanned (g sc.slot) sc s := fun g => by rw [scanStep, hsc]
  have habsent : ∀ g : Nat → Option Desc, g sc.slot = none → ∃ t, command (scanStep g) s = .next t ∧ absentFrom t := by
    intro g hg
    obtain ⟨t, ht, hcards, hconn, hquar, hon⟩ := command_scanned h hlaw hsc (hstep g)
    rw [hg] at hcards hconn hquar
    have hcard : ∀ k, t.card k = if k = sc.slot then .absent else s.card k := fun k => by
      rw [State.card, hcards]; exact scanSlot_card none sc.slot k s
    refine ⟨t, ht, by simp [hcard], fun k hk => by simp [hcard, hk], fun p => ?_, hquar, hon⟩
    rw [State.conn, hconn]
    exact scanSlot_none_conn sc.slot p s
  refine ⟨habsent _ rfl, fun c hc hslot hok hr => ?_, fun hbad => habsent _ (accepted_eq_none hbad)⟩
  have hacc : accepted d sc.slot ok =
      some { ctype := c, rating := d.rating, operate := d.operate, release := d.release } := by
    cases c <;> simp [accepted, hc, hslot, hok, hr]
  obtain ⟨t, ht, hcards, hconn, hquar, hon⟩ := command_scanned h hlaw hsc (hstep fun k => accepted d k ok)
  rw [hacc] at hcards hconn hquar
  have hcard : ∀ k, t.card k = if k = sc.slot then _ else s.card k := fun k => by
    rw [State.card, hcards]; exact scanSlot_card _ sc.slot k s
  refine ⟨t, ht, by simp [hcard], fun k hk => by simp [hcard, hk], hconn, fun p => ?_, hon⟩
  rw [State.quar, hquar]
  exact clearLost_quar hwf p

end Sys2Proof.Machine
end

section
/-! PROOFS. A card that is silent: O41. -/

namespace Sys2Proof.Machine

/-! ### The excluded list, as it grows (R17 to R19) -/

/-- A list of excluded entries names a side of a point. -/
def namesSide (p : Nat) (side : Side) (ex : List Excl) : Prop := ∃ x ∈ ex, x.point = p ∧ x.side = side

theorem namesSide_insertExcl (x : Excl) (ex : List Excl) (p : Nat) (side : Side) :
    namesSide p side (insertExcl x ex) ↔ (x.point = p ∧ x.side = side) ∨ namesSide p side ex := by
  induction ex with
  | nil => simp [insertExcl, namesSide]
  | cons y ys ih =>
    simp only [namesSide, List.exists_mem_cons_iff] at ih ⊢
    unfold insertExcl
    split
    · rename_i hxy
      obtain ⟨hp, hs⟩ := hxy
      simp only [List.exists_mem_cons_iff, hp, hs, or_self_left]
    · split
      · simp only [List.exists_mem_cons_iff]
      · simp only [List.exists_mem_cons_iff, ih, or_left_comm]

/-- Every point excluded that the adjusted target names is listed on the side it names (R17 to R19). -/
theorem namesSide_exclude {ps : List Nat} (why : ExclReason) {b : Batch} {p : Nat} {side : Side} (hp : p ∈ ps)
    (hadj : b.adj.get .opn p = connOf side) : namesSide p side (exclude ps why b).excl := by
  have hgrow : ∀ (ps : List Nat) (ex : List Excl), namesSide p side ex ∨ p ∈ ps →
      namesSide p side (ps.foldl (fun ex p => match sideOf (b.adj.get .opn p) with
        | some side => insertExcl { point := p, side := side, reason := why } ex
        | none => ex) ex) := by
    intro ps
    induction ps with
    | nil => intro ex h; simpa using h
    | cons q ps ih =>
      intro ex h
      refine ih _ ?_
      dsimp only
      rcases h with h | h
      · left
        split
        · exact (namesSide_insertExcl ..).mpr (Or.inr h)
        · exact h
      · rcases List.mem_cons.mp h with rfl | h
        · left
          simp only [sideOf_eq_some.mpr hadj]
          exact (namesSide_insertExcl ..).mpr (Or.inl ⟨rfl, rfl⟩)
        · exact Or.inr h
  exact hgrow ps b.excl (Or.inr hp)

/-! ### The card that goes -/

theorem transmit_sending {s : State} {w : Wire} (h : s.flk.wire = some w) : transmit s = s := by simp [transmit, h]

/-- With nothing else to send, the transmitter takes the one notice there is; N-CARD starts the lost since set afresh
(R199, R200). -/
theorem transmit_card {s : State} {p : List Byte} (hw : s.flk.wire = none) (hr : s.flk.reply = none) (hreset : s.resetting = none)
    (hn : s.flk.notices = [{ kind := .card, payload := p }]) :
    transmit s = { s with flk := { s.flk with
      notices := []
      wire := some { frame := { type := 0x84#8, payload := p }, isReply := false, stream := false }
      lostSince := [] } } := by
  simp [transmit, hw, hr, hreset, hn, NoticeKind.type]

/-- What the loss of a PRESENT card does to the frame link (R25, R200). -/
theorem cardGone_link {k : Nat} {s : State} {d : Desc} (h : s.card k = .present d) :
    ∃ m q, cardGone k s = { s with
        mxc := m, flk := { s.flk with lostSince := insertAsc k s.flk.lostSince, notices := q } } ∧
      (s.flk.classCard = true → q = coalesce
        { kind := .card, payload := slotSet { s with mxc := m }.lostSlots ++ slotSet (insertAsc k s.flk.lostSince) }
        s.flk.notices) ∧
      (s.flk.classCard = false → q = s.flk.notices) := by
  rw [cardGone_present h]
  cases hc : s.flk.classCard
  · exact ⟨_, s.flk.notices, if_neg (by simp [Flk.classOn, hc]), nofun, fun _ => rfl⟩
  · exact ⟨_, _, if_pos (by simp [Flk.classOn, hc]), fun _ => rfl, nofun⟩

/-- A PRESENT card has gone: LOST, its points quarantined and OPEN, no opening awaited of it (R19). -/
def CardGone (k : Nat) (d : Desc) (s t : State) : Prop :=
  t.card k = .lost d ∧ (∀ j, j ≠ k → t.card j = s.card j) ∧
  (∀ p, t.quar p = if p / 64 = k then .cardLost else s.quar p) ∧
  (∀ p, t.conn p = if p / 64 = k then .opn else s.conn p) ∧
  (∀ c, c ∈ t.mxc.opens ↔ c ∈ s.mxc.opens ∧ c.point / 64 ≠ k) ∧
  t.hvc = s.hvc ∧ t.msu = s.msu

/-- So it is once a card has gone, whatever becomes of the batch. -/
theorem cardGone_spec {k : Nat} {s : State} {d : Desc} (h : s.card k = .present d) : CardGone k d s (cardGone k s) := by
  obtain ⟨hmsu, hhvc, -, -, -, -, -, -, -, -, -, -, -, -, hopens⟩ := cardGone_keeps k s
  refine ⟨by simp [cardGone_card h], fun j hj => by simp [cardGone_card h, hj], cardGone_quar h, cardGone_conn h,
    fun c => ?_, hhvc, hmsu⟩
  simp [hopens, RelayCmd.atSlot, slotOf_eq]

/-- What a lost card leaves behind, the run as it was: the frame link with N-CARD queued behind a frame on the wire, or sent
at once (R25, R200). -/
def CardLost (k : Nat) (d : Desc) (s t : State) : Prop :=
  CardGone k d s t ∧ t.rnc = s.rnc ∧
  (s.flk.wire ≠ none →
    (∀ j, j ∈ t.flk.lostSince ↔ j = k ∨ j ∈ s.flk.lostSince) ∧ t.flk.wire = s.flk.wire ∧
    (s.flk.classCard = true →
      { kind := .card, payload := slotSet t.lostSlots ++ slotSet t.flk.lostSince : Notice } ∈ t.flk.notices) ∧
    (s.flk.classCard = false → t.flk.notices = s.flk.notices)) ∧
  (s.flk.wire = none → s.flk.reply = none → s.resetting = none → s.flk.notices = [] → s.flk.classCard = true →
    t.flk.lostSince = [] ∧ t.flk.notices = [] ∧ ∃ since : List Nat,
      (∀ j, j ∈ since ↔ j = k ∨ j ∈ s.flk.lostSince) ∧
      t.flk.wire = some { frame := { type := 0x84#8, payload := slotSet t.lostSlots ++ slotSet since },
                          isReply := false, stream := false })

/-- A command whose effect is that a PRESENT card goes and the batch goes on so. -/
theorem command_cardLost {f : State → State} {k : Nat} {s : State} {d : Desc} {ob : Option Batch} (h : s.calm)
    (hk : s.card k = .present d)
    (hf : f s = { cardGone k s with mxc := { (cardGone k s).mxc with batch := ob } }) (hb : ob = none → s.mxc.batch = none) :
    ∃ t, command f s = .next t ∧ CardLost k d s t ∧ t.mxc.batch = ob := by
  have hgone := cardGone_spec hk
  obtain ⟨m, q, hg, hon, hoff⟩ := cardGone_link hk
  rw [hg] at hf hgone
  obtain ⟨u, hu⟩ := transmit_flk (f s)
  have hcmd : command f s = .next (transmit (f s)) := command_calm rfl (by rw [hf]; exact h.1) (by rw [hf]; exact h.2)
    (by rw [hf]; exact hb)
  have hsince : ∀ j, j ∈ insertAsc k s.flk.lostSince ↔ j = k ∨ j ∈ s.flk.lostSince := fun j => mem_insertAsc ..
  refine ⟨transmit (f s), hcmd, ⟨?_, ?_, fun hw => ?_, fun hw hr hreset hn hc => ?_⟩, ?_⟩
  · rw [hu, hf]; exact hgone
  · rw [hu, hf]
  · obtain ⟨w, hw⟩ := Option.ne_none_iff_exists'.mp hw
    rw [transmit_sending (by rw [hf]; exact hw), hf]
    refine ⟨hsince, rfl, fun hc => ?_, hoff⟩
    change _ ∈ q
    rw [hon hc]
    exact mem_coalesce _ _
  · rw [transmit_card (by rw [hf]; exact hw) (by rw [hf]; exact hr) (by rw [hf]; exact hreset)
      (by rw [hf]; exact (hon hc).trans (by rw [hn]; rfl)), hf]
    exact ⟨rfl, rfl, _, hsince, rfl⟩
  · rw [hu, hf]

/-! ### The batch goes on without the card -/

/-- The batch in flight as a PRESENT card goes: its points that the target names are listed, and the fault (R19, R20). -/
theorem lostIn_spec {k : Nat} {s : State} {d : Desc} (h : s.card k = .present d) (b : Batch) :
    lostIn k s b = { exclude (cardPoints k) .cardLost b with faults := b.faults ++ [.lost k] } := by
  rw [lostIn, h]; rfl

theorem lostIn_names {k : Nat} {s : State} {d : Desc} (h : s.card k = .present d) {b : Batch} {p : Nat} {side : Side}
    (hp : p / 64 = k) (hadj : b.adj.get .opn p = connOf side) : namesSide p side (lostIn k s b).excl := by
  have hnames := namesSide_exclude .cardLost (mem_cardPoints.mpr hp) hadj
  simpa only [lostIn_spec h] using hnames

/-- A card with a command outstanding that stays silent is gone, and the batch goes on without it (R19). -/
theorem ackTimeout_batch {k : Nat} {s : State} {b : Batch} (hb : s.mxc.batch = some b) (hp : b.commanding = true)
    (hc : ∃ c ∈ b.cmds, c.point / 64 = k) : ackTimeout k s = goOnWithout k (lostIn k s b) (cardGone k s) := by
  have hany : b.cmds.any (RelayCmd.atSlot k) = true := by
    simpa [List.any_eq_true, RelayCmd.atSlot, slotOf_eq] using hc
  simp [ackTimeout, hb, hp, hany]

/-- A card that is to be read and stays silent is gone, and the batch goes on without it (R16, R19). -/
theorem readbackLost_batch {k : Nat} {s : State} {b : Batch} (hb : s.mxc.batch = some b) (hp : b.phase = .readback)
    (hk : k ∈ b.reads) : readbackLost k s = readDone k (lostIn k s b) (cardGone k s) := by
  simp [readbackLost, hb, hp, hk]

/-- The commands that a lost card leaves outstanding (R19). -/
def cmdsWithout (k : Nat) (cmds : List RelayCmd) : List RelayCmd := cmds.filter fun c => !c.atSlot k

theorem mem_cmdsWithout {k : Nat} {cmds : List RelayCmd} {c : RelayCmd} :
    c ∈ cmdsWithout k cmds ↔ c ∈ cmds ∧ c.point / 64 ≠ k := by simp [cmdsWithout, RelayCmd.atSlot, slotOf_eq]

/-- With commands to other cards outstanding the phase goes on (R19). -/
theorem goOnWithout_others {k : Nat} {b : Batch} {s : State} (hp : b.commanding = true) (hc : cmdsWithout k b.cmds ≠ []) :
    goOnWithout k b s = setBatch { b with cmds := cmdsWithout k b.cmds } s := by
  have hr : b.phase ≠ .readback := by rcases phase_of_commanding hp with h | h <;> rw [h] <;> decide
  have he : (cmdsWithout k b.cmds).isEmpty = false := by simpa using hc
  have h : goOnWithout k b s = if b.phase = .readback then readDone k b s
      else if b.commanding && (cmdsWithout k b.cmds).isEmpty then phaseDone { b with cmds := cmdsWithout k b.cmds } s
      else setBatch { b with cmds := cmdsWithout k b.cmds } s := rfl
  rw [h, if_neg hr, he, Bool.and_false, if_neg (by decide)]

/-- With none the phase is done (R19). -/
theorem goOnWithout_last {k : Nat} {b : Batch} {s : State} (hp : b.commanding = true) (hc : cmdsWithout k b.cmds = []) :
    goOnWithout k b s = phaseDone { b with cmds := [] } s := by
  have hr : b.phase ≠ .readback := by rcases phase_of_commanding hp with h | h <;> rw [h] <;> decide
  have h : goOnWithout k b s = if b.phase = .readback then readDone k b s
      else if b.commanding && (cmdsWithout k b.cmds).isEmpty then phaseDone { b with cmds := cmdsWithout k b.cmds } s
      else setBatch { b with cmds := cmdsWithout k b.cmds } s := rfl
  rw [h, if_neg hr, hp, hc]
  rfl

theorem mem_readsWithout {k j : Nat} {reads : List Nat} : j ∈ reads.filter (fun k' => k' != k) ↔ j ∈ reads ∧ j ≠ k := by
  simp

/-- With other cards to read, readback goes on (R16). -/
theorem readDone_others {k : Nat} {b : Batch} {s : State} (h : ∃ j ∈ b.reads, j ≠ k) :
    readDone k b s = setBatch { b with reads := b.reads.filter fun j => j != k } s := by
  obtain ⟨j, hj⟩ := h
  have hne : b.reads.filter (fun j => j != k) ≠ [] := List.ne_nil_of_mem (mem_readsWithout.mpr hj)
  simp only [readDone, if_neg hne]

/-- After the last card the batch settles (R16, R20, R21). -/
theorem readDone_last {k : Nat} {b : Batch} {s : State} (h : ∀ j ∈ b.reads, j = k) :
    readDone k b s = settle (if b.aborted then .aborted else if b.stuck then .stuck else .ok) b s := by
  have hnil : b.reads.filter (fun j => j != k) = [] := by simpa [List.filter_eq_nil_iff] using h
  simp only [readDone, if_pos hnil]

theorem takeAfterSettle_noHeld {before s : State} (h : before.mxc.held = []) : takeAfterSettle before s = s := by
  unfold takeAfterSettle
  rw [h]
  exact ite_self s

/-- A command that settles a batch behind which none is held, and leaves a calm state: but for the frame link, that effect
alone (R20). -/
theorem command_settles {f : State → State} {s t : State} (ht : f s = t) (hs : t.settled) (hr : t.flk.requests = [])
    (hheld : s.mxc.held = []) : ∃ u, command f s = .next { t with flk := u } := by
  obtain ⟨htodo, hprint, hstream, hstruck⟩ := hs
  obtain ⟨u, hu⟩ := transmit_flk t
  refine ⟨u, ?_⟩
  rw [command, ht, finish]
  simp only [service_idle (Or.inl hr), pump_nil _ htodo, takeAfterSettle_noHeld hheld, heldAtEnd_settled hstruck,
    wakePrint_settled hprint, streamFill_settled hstream, hu]
  rw [streamFill_settled (by exact hstream)]

/-- Settles O41: the card that goes (`cardGone_spec`, `command_cardLost`), and the batch that goes on without it. -/
theorem silentCardIsLost : Obligations.SilentCardIsLost := by
  intro s k d h hk
  extract_lets gone lost
  refine ⟨fun b hb => ?_, fun hb => ⟨fun ⟨c, hc, hck⟩ => ?_, fun hnone => ?_⟩⟩
  · extract_lets lostHere
    have hgoes : ∀ (f : State → State) (b' : Batch), f s = setBatch b' (cardGone k s) →
        b'.faults = b.faults ++ [.lost k] → b'.excl = (lostIn k s b).excl →
        ∃ t, command f s = .next t ∧ lostHere t b' := by
      intro f b' hf hfaults hexcl
      obtain ⟨t, ht, hlost, hbatch⟩ := command_cardLost h hk hf nofun
      exact ⟨t, ht, hlost, hbatch, hfaults, fun p side hp hadj => hexcl ▸ lostIn_names hk hp hadj⟩
    have hspec := lostIn_spec hk b
    refine ⟨fun hp hc ⟨c, ho⟩ => ?_, fun hp hc hall ⟨m, hm, hmk, hmp⟩ => ?_, fun hp hr hother => ?_,
      fun hp hr hall hheld hw hrun hpre => ?_⟩
    · have hcom : (lostIn k s b).commanding = true := by rw [hspec]; exact commanding_of_phase hp
      have hne : cmdsWithout k (lostIn k s b).cmds ≠ [] := by
        rw [hspec]; exact List.ne_nil_of_mem (mem_cmdsWithout.mpr ho)
      obtain ⟨t, ht, hlost⟩ := hgoes _ _
        ((ackTimeout_batch hb (commanding_of_phase hp) hc).trans (goOnWithout_others hcom hne)) (by rw [hspec]) rfl
      refine ⟨t, _, ht, hlost, by rw [hspec]; rfl, fun c => ?_⟩
      rw [hspec]
      exact mem_cmdsWithout
    · have hcom : (lostIn k s b).commanding = true := by rw [hspec]; exact commanding_of_phase hp
      have hnil : cmdsWithout k (lostIn k s b).cmds = [] := by
        rw [hspec]
        exact List.eq_nil_iff_forall_not_mem.mpr fun c hc =>
          (mem_cmdsWithout.mp hc).2 (hall c (mem_cmdsWithout.mp hc).1)
      have hpresent : ∃ m ∈ ({ lostIn k s b with cmds := [] } : Batch).phaseAcked, ((cardGone k s).card m).isPresent = true :=
        ⟨m, by rw [hspec]; exact hm, by rw [cardGone_card hk, if_neg hmk]; exact hmp⟩
      obtain ⟨t, ht, hlost⟩ := hgoes _ _
        ((ackTimeout_batch hb (commanding_of_phase hp) hc).trans ((goOnWithout_last hcom hnil).trans (phaseDone_wait hpresent)))
        (by rw [hspec]) rfl
      exact ⟨t, _, ht, hlost, rfl, by rw [hspec]; rfl⟩
    · obtain ⟨t, ht, hlost⟩ := hgoes _ _
        ((readbackLost_batch hb hp hr).trans (readDone_others (by rw [hspec]; exact hother))) (by rw [hspec]) rfl
      refine ⟨t, _, ht, hlost, by rw [hspec]; exact hp, fun j => ?_⟩
      rw [hspec]
      exact mem_readsWithout
    · have hgone := cardGone_spec hk
      obtain ⟨m, q, hg, -⟩ := cardGone_link hk
      have hread := (readbackLost_batch hb hp hr).trans (readDone_last (by rw [hspec]; exact hall))
      rw [hg] at hread hgone
      obtain ⟨q', hend⟩ := settle_teardown (b := lostIn k s b) (s := { s with
          mxc := m, flk := { s.flk with lostSince := insertAsc k s.flk.lostSince, notices := q } })
        _ (by rw [hspec]; exact hw) hrun hpre
      obtain ⟨u, hu⟩ := command_settles (hread.trans hend) h.1 h.2 hheld
      exact ⟨_, hu, hgone, rfl, rfl⟩
  · have hf : ackTimeout k s = cardGone k s := by
      rw [ackTimeout, hb]
      refine if_pos (List.any_eq_true.mpr ⟨c, hc, by simp [RelayCmd.atSlot, slotOf_eq, hck]⟩)
    exact command_cardLost (ob := none) h hk (hf.trans (by rw [← (cardGone_batch k s).trans hb])) fun _ => hb
  · have hf : ackTimeout k s = s := by
      rw [ackTimeout, hb]
      exact if_neg (by simpa [List.any_eq_true, RelayCmd.atSlot, slotOf_eq] using hnone)
    exact command_calm hf h.1 h.2 id

end Sys2Proof.Machine
end

section
/-! PROOFS. A stuck relay while a disable of the printer is pending in IDLE: O43 is refuted. -/

namespace Sys2Proof.Machine

/-! The record of a stuck relay is print-marked, so it wakes an IDLE print engine. No premise of the statement keeps a disable
from being held pending there, and without paper it then takes effect at once (R191): every print mark is cleared, and an
earlier record that held no other mark leaves the log. So the log is not what it was with the new record after it. -/

/-- A batch of a CONT pair, with the card in slot 0 to be read. -/
def pairReading : Batch :=
  { req := { a := [0], b := [64], run := true, who := .cte }, adj := [(0, .a), (64, .b)], excl := [], faults := [],
    phase := .readback, cmds := [], phaseAcked := [], acked := [0], waitMs := 0, reads := [0], stuck := false,
    aborted := false }

/-- The pair's step. -/
def pairJob : ContJob :=
  { p := { first := 1, last := 1024, range := .auto, n := 2, rgood := 5000, ropen := 100000, shorts := true,
           rshort := 10000000 }
    nets := [5], net := 5, stage := .pairs, nominal := 2, anchor := 0, cursor := 64, recOnly := false, reported := [],
    filter := .fresh, phase := .measuring }

/-- A record of run 3 that is print-marked only. -/
def onlyPrintMarked : Rec :=
  { run := 3, seq := 1, kind := .opn, step := 0, a := 3, netA := 1, b := some 5, netB := 1, value := some 12, bound := .none,
    second := none, range := some 0, time := 9, host := false, print := true, inStream := false, inPrint := false }

/-- The summary slot of run 7, its header printed. -/
def headedSlot : Slot :=
  { number := 0, runNo := 7, kind := .plan, title := [], nets := 0, uncal := false, steps := [], header := true, ended := none,
    lastStep := none }

/-- Run 7 reads its pair back, that record in the log, and the print engine IDLE without paper and with a disable pending. -/
def idleDisablePending : State :=
  { State.reset with
    mxc := { Mxc.reset with batch := some pairReading }
    rnc := { Rnc.reset with state := .running, kind := some .plan, runNo := 7 }
    cte := .cont pairJob
    dlg := { Dlg.reset with recs := [onlyPrintMarked] }
    pre := { Pre.reset with state := .idle, enable := true, disPending := true, paper := false, slots := [headedSlot] } }

theorem idleDisablePending_calm : idleDisablePending.calm :=
  ⟨⟨rfl, fun _ => Or.inr ⟨headedSlot, [], rfl, rfl, rfl, Or.inl rfl⟩, Or.inl rfl, nofun⟩, rfl⟩

/-- The report of a relay stuck on P0005's side B leaves one record in the log: the old one has left. -/
theorem readback_disablePending {t : State} (h : exec (.readbackReport 0 0#64 32#64) idleDisablePending = .next t) :
    t.dlg.recs.length = 1 := by
  have hlen : (match exec (.readbackReport 0 0#64 32#64) idleDisablePending with
    | .next t => t.dlg.recs.length
    | _ => 0) = 1 := by decide
  rwa [h] at hlen

/-- Refutes O43: with a disable of the printer pending in IDLE, the record of a stuck relay does not join the log as it was,
for a record that was only print-marked leaves it (`readback_disablePending`). -/
theorem not_readbackQuarantinesWhatFailed : ¬Obligations.ReadbackQuarantinesWhatFailed := by
  unfold Obligations.ReadbackQuarantinesWhatFailed
  intro h
  obtain ⟨-, hlast⟩ := h idleDisablePending pairReading 0 0#64 32#64 idleDisablePending_calm rfl rfl (by decide)
  obtain ⟨-, -, -, hstuck⟩ := hlast (by decide) rfl
  have hopen : ∀ p, idleDisablePending.conn p = .opn := fun _ => rfl
  obtain ⟨t, rec, ht, -, -, -, -, -, -, -, -, -, -, -, -, -, hlog, -⟩ := hstuck pairJob
    ⟨5, by decide, Or.inr ⟨by decide, by rw [hopen]; decide⟩⟩ (fun p hp => by simp [hopen] at hp)
    rfl rfl rfl rfl rfl rfl rfl rfl (by decide) rfl rfl (by decide)
  have hlen := readback_disablePending ht
  rw [hlog (Or.inr (by decide))] at hlen
  simp [idleDisablePending] at hlen

end Sys2Proof.Machine
end

section
/-! PROOFS. The calibration table, and the sample window: O4, O12, O44. -/

namespace Sys2Proof.Machine

theorem CalEntry.bytes_eq (e : CalEntry) : e.bytes =
    le16 (BitVec.ofInt 16 e.offset).toNat ++ le16 (BitVec.ofInt 16 e.gain).toNat ++ [if e.uncal then 1#8 else 0#8] := by
  cases h : e.uncal <;> simp [CalEntry.bytes, leInt16, le8, yesNo, h]

/-- Settles O4: CAL-READ is answered with the bytes of each entry in turn. -/
theorem calReadGivesSevenEntries : Obligations.CalReadGivesSevenEntries := by
  intro s h
  refine (request_answered .calRead h _ rfl).trans ?_
  refine congrArg (fun p => Host.Outcome.next (State.answered 0x0A#8 p s)) ?_
  change s.msu.cal.entries.flatMap CalEntry.bytes = _
  rw [List.flatMap_congr fun e _ => e.bytes_eq]
  rfl

/-- Settles O12: CAL-WRITE's two checks in order, and the write, which keeps each signed number within its limits. -/
theorem calWriteStoresClampedEntry : Obligations.CalWriteStoresClampedEntry := by
  intro s r o g h
  have hc : carryOut (.calWrite r o g) s.taken = doCalWrite r o g s.taken := rfl
  change request _ s = _
  rw [doCalWrite, show s.taken.active = s.active from rfl] at hc
  split at hc
  · rw [if_pos ‹_›]; exact request_answered _ h _ hc
  rw [if_neg ‹_›]
  split at hc
  · rw [if_pos ‹_›]; exact request_answered _ h _ hc
  rw [if_neg ‹_›]
  exact request_replied _ h _ _ hc h.1.1.taken rfl rfl

/-! ### The sample window -/

/-- On a safe bus and with the matrix still, the first waiting request opens its window (R29). -/
theorem windowTake_opens {s : State} {w : WinReq} {ws : List WinReq} (hw : s.msu.waiting = w :: ws)
    (hnone : s.msu.window = none) (hwait : s.msu.busWait = false) (hm : s.moving = false) (hsrc : s.hvc.sourceOn = false)
    (hbus : s.hvc.bus ≤ 30000) : windowTake s = openFirst s := by
  simp [windowTake, hw, hnone, hwait, hm, State.busStill, hsrc, hbus, Config.safeBus]

theorem openFirst_eq {s : State} {w : WinReq} {ws : List WinReq} (hw : s.msu.waiting = w :: ws) :
    openFirst s = { s with msu := { s.msu with
      contRange := w.range
      waiting := ws
      busWait := false
      window := some { owner := w.owner, la := w.la, lb := w.lb, sampling := false } } } := by
  simp only [openFirst, hw]

/-- Settles O44: the window opens (`windowTake_opens`), and its settle time ends. -/
theorem windowOpensAndSettles : Obligations.WindowOpensAndSettles := by
  intro s h
  refine ⟨fun w ws hw hnone hwait hm hsrc hbus => ?_, fun w hw => ?_⟩
  · have hopen := (windowTake_opens hw hnone hwait hm hsrc hbus).trans (openFirst_eq hw)
    refine (command_calm hopen h.1 h.2 id).trans ?_
    rw [← hwait]
  · have hsettle : settleEnd s = { s with msu := { s.msu with window := some { w with sampling := true } } } := by
      simp [settleEnd, hw]
    exact command_calm hsettle h.1 h.2 id

end Sys2Proof.Machine
end

section
/-! PROOFS. A sample while a disable of the printer is pending in IDLE: O45 is refuted. -/

namespace Sys2Proof.Machine

/-! A pair's record is print-marked, and wakes an IDLE print engine as the record of a stuck relay does
(`not_readbackQuarantinesWhatFailed`). The statement's premises bind the log, the run and the engine, and leave the printer
free: with a disable held pending there and no paper, the disable takes effect within the same command (R191, R182), and a
record that was only print-marked leaves the log. -/

/-- A pair of net 5 whose next sample, if it is OVER, is the second that agrees. -/
def secondSample : ContJob := { pairJob with filter := { cls := some .opn, len := 1, count := 1 } }

/-- That pair in its window on CR2, the member after it on a card that is PRESENT, and the printer as in
`idleDisablePending`. -/
def sampleDisablePending : State :=
  { idleDisablePending with
    mxc := { Mxc.reset with cards := [(1, .present { ctype := .low, rating := 100, operate := 3#4, release := 0#4 })] }
    msu := { Msu.reset with
      contRange := .cr2, window := some { owner := .cte, la := some 0, lb := some 64, sampling := true } }
    nst := { Nst.reset with nets := [(5, [0, 64, 65])] }
    cte := .cont secondSample }

/-- The OPEN verdict of the sample leaves one record in the log: the old one has left. -/
theorem sample_disablePending {t : State} (h : exec (.sample 65535#16) sampleDisablePending = .next t) :
    t.dlg.recs.length = 1 := by
  have hlen : (match exec (.sample 65535#16) sampleDisablePending with
    | .next t => t.dlg.recs.length
    | _ => 0) = 1 := by decide
  rwa [h] at hlen

/-- Refutes O45: with a disable of the printer pending in IDLE, a pair's OPEN record does not join the log as it was, for a
record that was only print-marked leaves it (`sample_disablePending`). -/
theorem not_sampleGivesProbeItsResistance : ¬Obligations.SampleGivesProbeItsResistance := by
  unfold Obligations.SampleGivesProbeItsResistance
  intro h
  obtain ⟨-, hpair, -⟩ := h sampleDisablePending 65535#16 { owner := .cte, la := some 0, lb := some 64, sampling := true }
    0 64 .cr2 idleDisablePending_calm rfl rfl rfl rfl rfl rfl rfl
  obtain ⟨-, hcounted⟩ := hpair secondSample rfl rfl rfl rfl rfl rfl
  obtain ⟨-, hverdict⟩ := hcounted (Or.inr (Or.inr rfl))
  obtain ⟨-, hrecord⟩ := hverdict 65 (Or.inl (by decide)) ⟨rfl, rfl, rfl, rfl, rfl, by decide⟩ (by decide) (by decide)
  obtain ⟨t, rec, ht, -, hlog, -⟩ := hrecord (Or.inr (by decide)) ⟨by decide, by decide⟩
  have hlen := sample_disablePending ht
  rw [hlog] at hlen
  simp [sampleDisablePending, idleDisablePending] at hlen

end Sys2Proof.Machine
end

section
/-! PROOFS. Insulation readings: the arithmetic, what a reading delivers, and the verdicts; O46. -/

namespace Sys2Proof.Machine

/-! ### The arithmetic (R40, R43, R44) -/

/-- The offset and gain stages, in the integers (R40). -/
theorem CalEntry.correct_eq (e : CalEntry) (raw : Word16) : e.correct raw =
    (max 0 (min 65535 ((max 0 (min 65535 ((raw.toNat : Int) + e.offset)) * (65536 + e.gain) + 32768) / 65536))).toNat := by
  simp only [CalEntry.correct, clampInt, Int.toNat_of_nonneg (Int.le_max_left ..)]

/-- A corrected code is a code (R40). -/
theorem CalEntry.correct_le (e : CalEntry) (raw : Word16) : e.correct raw ≤ 65535 := by
  rw [CalEntry.correct_eq]; omega

theorem busVoltage_eq (t : CalTable) (hvm : Word16) :
    busVoltage t hvm = if hvm = 65535#16 then 1638375 else t.hvm.correct hvm * 25 := by
  simp [busVoltage, isOver, Config.busOver]

/-- No code reads above OVER (R28). -/
theorem busVoltage_le (t : CalTable) (hvm : Word16) : busVoltage t hvm ≤ 1638375 := by
  have := t.hvm.correct_le hvm
  rw [busVoltage_eq]
  split <;> omega

/-- The kilohms of a current: the quotient, or the largest resistance where it is above or the current is 0 (R44). -/
def kilohmsOf (v i : Nat) : Nat := if i = 0 then 4294967295 else min 4294967295 (v * 1000000 / i)

/-- The bound of a corrected code's kilohms: at least, where the quotient is not given itself (R44). -/
def kilohmsBound (v i : Nat) : Bound := if i = 0 ∨ 4294967295 < v * 1000000 / i then .atLeast else .none

/-- A corrected code of 0 is a current of 0 (R44). -/
theorem kilohmsOf_code (v c : Nat) {u : Nat} (hu : u ≠ 0) :
    kilohmsOf v (c * u) = if c = 0 then 4294967295 else min 4294967295 (v * 1000000 / (c * u)) := by
  simp only [kilohmsOf, Nat.mul_eq_zero, hu, or_false]

theorem insulResistance_code (v i : Nat) : insulResistance v i false = (kilohmsOf v i, kilohmsBound v i) := by
  unfold insulResistance kilohmsOf kilohmsBound maxKilohms
  by_cases hi : i = 0
  · simp only [hi, if_true, true_or]
  · by_cases hq : 4294967295 < v * 1000000 / i
    · simp only [hi, hq, if_true, if_false, or_true, Nat.min_eq_left (Nat.le_of_lt hq)]
    · simp only [hi, hq, if_false, or_self, Bool.false_eq_true, Nat.min_eq_right (Nat.le_of_not_lt hq)]

/-- An OVER current on IR0 bounds the resistance from above: no bus voltage makes the quotient too large (R44). -/
theorem insulResistance_over {v : Nat} (hv : v ≤ 1638375) :
    insulResistance v 65535000 true = (kilohmsOf v 65535000, .atMost) := by
  have hq : v * 1000000 / 65535000 ≤ 4294967295 := by omega
  unfold insulResistance kilohmsOf maxKilohms
  have hi : ¬(65535000 = 0) := by decide
  rw [if_neg hi, if_neg (Nat.not_lt.mpr hq), if_neg hi, Nat.min_eq_right hq, if_pos rfl]

/-! ### What a reading delivers (R34, R43) -/

/-! The equation lemmas of `insulReading` are beyond the kernel (a comparison with 4294967295 that it would unfold), so these
lemmas open the definition itself, and take the resistance by the lemmas above before anything reduces it. -/

theorem isOver_eq (raw : Word16) : isOver raw = decide (raw = 65535#16) := beq_eq_decide _ _

/-- OVER on IR1 and IR2. -/
theorem insulReading_over {t : CalTable} {r : LRange} {leak : Word16} (hvm : Word16) (hr : r ≠ .ir0)
    (hl : leak = 65535#16) : insulReading t r leak hvm = (busVoltage t hvm, .over) := by
  refine (if_pos (by rw [isOver_eq, hl]; rfl)).trans ?_
  cases r with
  | ir0 => exact absurd rfl hr
  | ir1 => rfl
  | ir2 => rfl

/-- OVER on IR0: a resistance bounded from above. -/
theorem insulReading_over_ir0 {t : CalTable} {leak : Word16} (hvm : Word16) (hl : leak = 65535#16) :
    insulReading t .ir0 leak hvm =
      (busVoltage t hvm, .value (kilohmsOf (busVoltage t hvm) 65535000) .atMost none) := by
  delta insulReading
  extract_lets v
  rewrite [if_pos (by rw [isOver_eq, hl]; rfl)]
  generalize hq : insulResistance v 65535000 true = q
  obtain rfl : _ = q := (insulResistance_over (busVoltage_le t hvm)).symm.trans hq
  rfl

/-- Any other code: a resistance and the corrected code. -/
theorem insulReading_code {t : CalTable} {r : LRange} {leak : Word16} (hvm : Word16) (hl : leak ≠ 65535#16) :
    insulReading t r leak hvm = (busVoltage t hvm,
      .value (kilohmsOf (busVoltage t hvm) ((t.leak r).correct leak * r.picoamps))
        (kilohmsBound (busVoltage t hvm) ((t.leak r).correct leak * r.picoamps)) (some ((t.leak r).correct leak))) := by
  delta insulReading
  extract_lets v code
  rewrite [if_neg (by rw [isOver_eq]; exact fun h => hl (of_decide_eq_true h))]
  generalize hq : insulResistance v (code * r.picoamps) false = q
  obtain rfl : _ = q := (insulResistance_code v (code * r.picoamps)).symm.trans hq
  rfl

/-- On IR0, as at the ramp check, every code gives a resistance (R34, R44). -/
theorem insulReading_ir0 (t : CalTable) (leak hvm : Word16) :
    ∃ b c, insulReading t .ir0 leak hvm = (busVoltage t hvm, .value (kilohmsOf (busVoltage t hvm)
        (if leak = 65535#16 then 65535000 else t.ir0.correct leak * 1000)) b c) ∧ (leak = 65535#16 → b = .atMost) := by
  by_cases hl : leak = 65535#16
  · exact ⟨.atMost, none, by rw [insulReading_over_ir0 hvm hl, if_pos hl], fun _ => rfl⟩
  · exact ⟨_, _, by rw [insulReading_code hvm hl, if_neg hl]; rfl, fun he => absurd he hl⟩

/-- Whatever the leakage, the bus voltage is that of the HVM code. -/
theorem insulReading_eq (t : CalTable) (r : LRange) (leak hvm : Word16) :
    ∃ rd, insulReading t r leak hvm = (busVoltage t hvm, rd) := by
  by_cases hl : leak = 65535#16
  · by_cases hr : r = .ir0
    · subst hr; exact ⟨_, insulReading_over_ir0 hvm hl⟩
    · exact ⟨_, insulReading_over hvm hr hl⟩
  · exact ⟨_, insulReading_code hvm hl⟩

/-! ### How the ISE judges it (R143, R144) -/

theorem applyReading_discard (rd : Reading) {j : InsulJob} (h : j.discard = true) :
    applyReading rd j = ({ j with discard := false }, none) := if_pos h

theorem applyReading_over {j : InsulJob} (h : j.discard = false) :
    applyReading .over j = ({ j with leak := j.leak.coarser, discard := true }, none) := if_neg (by simp [h])

/-- The LOW count after a reading of so many kilohms (R144). -/
def InsulJob.lowAfter (j : InsulJob) (k : Nat) : Nat := if k < j.p.rmin * 1000 then j.low + 1 else 0

/-- The job after a dwell reading of so many kilohms with its corrected code: the LOW count and the range change (R144). -/
def InsulJob.counted (j : InsulJob) (k c : Nat) : InsulJob :=
  { j with
    low := j.lowAfter k
    leak := if c < 5000 ∧ j.leak ≠ .ir2 then j.leak.finer else j.leak
    discard := decide (c < 5000 ∧ j.leak ≠ .ir2) }

/-- Such a reading is counted, and makes the verdict at N (R144). -/
theorem applyReading_value {j : InsulJob} (k : Nat) (b : Bound) (c : Nat) (h : j.discard = false) :
    applyReading (.value k b (some c)) j =
      (j.counted k c,
        if j.p.n ≤ j.lowAfter k then some { value := k, bound := b, range := j.leak.index } else none) := by
  have hfiner : (decide (c < 5000) && j.leak != .ir2) = decide (c < 5000 ∧ j.leak ≠ .ir2) := by
    cases j.leak <;> simp
  by_cases hlow : k < j.p.rmin * 1000 <;>
    simp [applyReading, h, isLow, hfiner, hlow, InsulJob.counted, InsulJob.lowAfter]

/-- On IR2 no range is finer (R144). -/
theorem InsulJob.counted_finest {j : InsulJob} (k c : Nat) (hr : j.leak = .ir2) (hd : j.discard = false) :
    j.counted k c = { j with low := j.lowAfter k } := by simp [InsulJob.counted, hr, hd]

/-- On IR0 and IR1 a code below 5000 goes a range on, and the next reading is discarded (R144). -/
theorem InsulJob.counted_coarse {j : InsulJob} (k c : Nat) (hr : j.leak ≠ .ir2) :
    j.counted k c = { j with
      low := j.lowAfter k
      leak := if c < 5000 then j.leak.finer else j.leak
      discard := decide (c < 5000) } := by simp [InsulJob.counted, hr]

theorem dwellReading_goesOn {rd : Reading} {j j' : InsulJob} (s : State) (h : applyReading rd j = (j', none))
    (ht : j'.timedOut = false) : dwellReading rd j s = setIse j' s := by simp [dwellReading, h, ht]

theorem dwellReading_passes {rd : Reading} {j j' : InsulJob} (s : State) (h : applyReading rd j = (j', none))
    (ht : j'.timedOut = true) : dwellReading rd j s = fixPass j' s := by simp [dwellReading, h, ht]

theorem dwellReading_fails {rd : Reading} {j j' : InsulJob} {m : Meas} (s : State)
    (h : applyReading rd j = (j', some m)) : dwellReading rd j s = fixLowIr m j' s := by simp [dwellReading, h]

/-- With localise on, a LOW_IR verdict makes no record of its own: the discharge is all (R145, R147). -/
theorem fixLowIr_localise (m : Meas) {j : InsulJob} (s : State) (h : j.p.localise = true) :
    fixLowIr m j s = enterDischarge (setIse { j with verdict := .lowIr, meas := m } s) := by
  simp [fixLowIr, h, later]

/-- The reading under way is complete (R34). -/
def State.readingDone (s : State) : State := { s with msu := { s.msu with reading := false } }

/-- It reaches the ISE, no verdict fixed, at the ramp check (R143). -/
theorem insulationIn_ramp {s : State} {j : InsulJob} {leak hvm : Word16} {v : Nat} {rd : Reading}
    (hr : s.msu.reading = true) (hj : s.ise = some j) (hv : j.verdict = .none) (hs : s.hvc.state = .ramp)
    (hc : s.hvc.checking = true) (hrd : insulReading s.msu.cal s.msu.leakRange leak hvm = (v, rd)) :
    insulationIn leak hvm s = rampReading v rd j s.readingDone := by
  simp [insulationIn, hr, hrd, hj, insulReadingIn, hv, hs, hc, State.readingDone]

/-- It reaches the ISE, no verdict fixed, in DWELL (R144). -/
theorem insulationIn_dwell {s : State} {j : InsulJob} {leak hvm : Word16} {v : Nat} {rd : Reading}
    (hr : s.msu.reading = true) (hj : s.ise = some j) (hv : j.verdict = .none) (hs : s.hvc.state = .dwell)
    (hrd : insulReading s.msu.cal s.msu.leakRange leak hvm = (v, rd)) :
    insulationIn leak hvm s = dwellReading rd j s.readingDone := by
  simp [insulationIn, hr, hrd, hj, insulReadingIn, hv, hs, State.readingDone]

/-- The bus has come up to nine tenths of the target: DWELL, and the first reading is asked for (R143, R134). -/
theorem rampReading_dwell {v : Nat} {rd : Reading} {j : InsulJob} {s : State} (h : s.hvc.energ.target * 9 ≤ v * 10) :
    rampReading v rd j s = { s with
      hvc := { s.hvc with state := .dwell, checking := false, dwellClock := 0 }
      msu := { s.msu with leakRange := .ir0, reading := true }
      ise := some { j with leak := .ir0, low := 0, discard := false } } := by
  simp [rampReading, h, requestReading, setIse]

/-- It has not: the reading of the ramp check is the verdict LOW_IR (R143). -/
theorem rampReading_fails {v k : Nat} {b : Bound} {c : Option Nat} {j : InsulJob} {s : State}
    (h : v * 10 < s.hvc.energ.target * 9) : rampReading v (.value k b c) j s =
      fixLowIr { value := k, bound := b, range := 3 } j { s with hvc := { s.hvc with checking := false } } := by
  simp [rampReading, Nat.not_le.mpr h, LRange.index]

/-- The state in which a verdict LOW_IR leaves the part, localisation to follow (R135, R147). -/
structure LowIrFixed (j : InsulJob) (m : Meas) (s t : State) : Prop where
  discharging : t.hvc.state = .discharge ∧ t.hvc.timer = true ∧ t.hvc.setpoint = 0
  run : t.rnc = s.rnc ∧ t.dlg = s.dlg
  job : t.ise = some { j with verdict := .lowIr, meas := m }

/-- A reading that fixes LOW_IR with localise on. -/
theorem insulationReading_fails {s u : State} {leak hvm : Word16} {j : InsulJob} {m : Meas} (h : s.calm)
    (hl : j.p.localise = true) (hf : insulationIn leak hvm s = fixLowIr m j u)
    (hu : ∃ msu hvc, hvc.energised = s.hvc.energised ∧ u = { s with msu := msu, hvc := hvc }) :
    ∃ t, exec (.insulationReading leak hvm) s = .next t ∧ LowIrFixed j m s t := by
  obtain ⟨msu, hvc, hen, rfl⟩ := hu
  rw [fixLowIr_localise m _ hl, enterDischarge_spec] at hf
  obtain ⟨⟨htodo, hprint, hstream, hstruck⟩, hreq⟩ := h
  obtain ⟨f, hcmd⟩ := command_flk hf ⟨htodo, hprint, hstream, fun hs => hen.trans (hstruck hs)⟩ hreq id
  exact ⟨_, hcmd, ⟨rfl, rfl, rfl⟩, ⟨rfl, rfl⟩, rfl⟩

/-- A dwell reading that fixes no verdict, before the time out. -/
theorem insulationReading_goesOn {s : State} {leak hvm : Word16} {j j' : InsulJob} {v : Nat} {rd : Reading} (h : s.calm)
    (hr : s.msu.reading = true) (hj : s.ise = some j) (hv : j.verdict = .none) (hs : s.hvc.state = .dwell)
    (hrd : insulReading s.msu.cal s.msu.leakRange leak hvm = (v, rd)) (ha : applyReading rd j = (j', none))
    (ht : j'.timedOut = false) :
    exec (.insulationReading leak hvm) s = .next (transmit
      { s with msu := { s.msu with reading := false }, ise := some j' }) :=
  command_calm ((insulationIn_dwell hr hj hv hs hrd).trans (dwellReading_goesOn _ ha ht)) h.1 h.2 id

/-- A dwell reading with its corrected code that does not complete the LOW count (R144). -/
theorem insulationReading_counts {s : State} {leak hvm : Word16} {j : InsulJob} {v k c : Nat} {b : Bound} (h : s.calm)
    (hr : s.msu.reading = true) (hj : s.ise = some j) (hv : j.verdict = .none) (hs : s.hvc.state = .dwell)
    (hrd : insulReading s.msu.cal s.msu.leakRange leak hvm = (v, .value k b (some c))) (hd : j.discard = false)
    (ht : j.timedOut = false) (hlow : j.lowAfter k < j.p.n) :
    exec (.insulationReading leak hvm) s = .next (transmit
      { s with msu := { s.msu with reading := false }, ise := some (j.counted k c) }) :=
  insulationReading_goesOn h hr hj hv hs hrd
    ((applyReading_value k b c hd).trans (by rw [if_neg (Nat.not_le.mpr hlow)])) ht

/-- One that completes it (R144). -/
theorem insulationReading_low {s : State} {leak hvm : Word16} {j : InsulJob} {v k c : Nat} {b : Bound} (h : s.calm)
    (hr : s.msu.reading = true) (hj : s.ise = some j) (hv : j.verdict = .none) (hs : s.hvc.state = .dwell)
    (hrd : insulReading s.msu.cal s.msu.leakRange leak hvm = (v, .value k b (some c))) (hd : j.discard = false)
    (hlow : j.p.n ≤ j.lowAfter k) (hl : j.p.localise = true) :
    ∃ t, exec (.insulationReading leak hvm) s = .next t ∧
      LowIrFixed (j.counted k c) { value := k, bound := b, range := j.leak.index } s t :=
  insulationReading_fails h hl
    ((insulationIn_dwell hr hj hv hs hrd).trans
      (dwellReading_fails _ ((applyReading_value k b c hd).trans (by rw [if_pos hlow]))))
    ⟨{ s.msu with reading := false }, s.hvc, rfl, rfl⟩

theorem dwellTimeOut_reading {s : State} {j : InsulJob} (hs : s.hvc.state = .dwell) (hj : s.ise = some j)
    (hv : j.verdict = .none) (hr : s.msu.reading = true) : dwellTimeOut s =
      { s with hvc := { s.hvc with dwellClock := s.hvc.energ.dwell }, ise := some { j with timedOut := true } } := by
  simp [dwellTimeOut, hs, hj, hv, hr, setIse]

/-- Settles O46: the ramp check (`rampReading_dwell`, `rampReading_fails`), and the dwell readings by what
`applyReading` makes of them. -/
theorem insulationReadingsAreJudged : Obligations.InsulationReadingsAreJudged := by
  intro s leak hvm j h hr hj hv clampCode v
  have hcode : ∀ (e : CalEntry) (raw : Word16), e.correct raw = (clampCode e raw).toNat := fun e raw => e.correct_eq raw
  have hbus : busVoltage s.msu.cal hvm = v := by simp only [busVoltage_eq, v, hcode]
  clear_value v clampCode
  obtain ⟨rd, hrd⟩ := insulReading_eq s.msu.cal s.msu.leakRange leak hvm
  refine ⟨fun hs hc hup => ?_, fun hs hd ht => ?_, fun hs hd ht hmr hjr hl => ?_, fun hs hc hlow hmr hloc => ?_,
    fun hs hd ht hrange hl => ?_, fun r e unit hs hd ht hentry hmr hjr hl => ?_, fun hs ht => ?_, fun hs ht hd => ?_⟩
  · exact command_calm ((insulationIn_ramp hr hj hv hs hc hrd).trans (rampReading_dwell (by rw [hbus]; exact hup))) h.1 h.2 id
  · exact insulationReading_goesOn h hr hj hv hs hrd (applyReading_discard _ hd) ht
  · intro pa q kohm bound
    obtain ⟨c, hread⟩ : ∃ c, insulReading s.msu.cal s.msu.leakRange leak hvm = (v, .value kohm bound (some c)) :=
      ⟨_, by rw [hmr, insulReading_code hvm hl, hbus, hcode]; rfl⟩
    have hcounted := InsulJob.counted_finest (j := j) kohm c hjr hd
    clear_value kohm bound
    refine ⟨fun hge hn => ?_, fun hlt hn => ?_, fun hlt hn hloc => ?_⟩
    · have hlow : j.lowAfter kohm = 0 := if_neg (Nat.not_lt.mpr hge)
      rw [insulationReading_counts h hr hj hv hs hread hd ht (by rw [hlow]; exact hn), hcounted, hlow]
    · have hlow : j.lowAfter kohm = j.low + 1 := if_pos hlt
      rw [insulationReading_counts h hr hj hv hs hread hd ht (by rw [hlow]; exact hn), hcounted, hlow]
    · have hlow : j.lowAfter kohm = j.low + 1 := if_pos hlt
      obtain ⟨t, hexec, ⟨hstate, htimer, hset⟩, ⟨hrnc, hdlg⟩, hise⟩ :=
        insulationReading_low h hr hj hv hs hread hd (by rw [hlow]; exact hn) hloc
      exact ⟨t, hexec, hstate, htimer, hset, hrnc, hdlg, by rw [hise, hcounted, hlow, hjr]; rfl⟩
  · intro pa kohm
    obtain ⟨bound, c, hread, hmost⟩ := insulReading_ir0 s.msu.cal leak hvm
    have hread : insulReading s.msu.cal s.msu.leakRange leak hvm = (v, .value kohm bound c) := by
      rw [hmr, hread, hbus, hcode]; rfl
    clear_value kohm
    obtain ⟨t, hexec, ⟨hstate, htimer, hset⟩, ⟨hrnc, hdlg⟩, hise⟩ := insulationReading_fails h hloc
      ((insulationIn_ramp hr hj hv hs hc hread).trans (rampReading_fails hlow))
      ⟨{ s.msu with reading := false }, { s.hvc with checking := false }, rfl, rfl⟩
    exact ⟨t, bound, hexec, hstate, htimer, hset, hrnc, hdlg, hise, hmost⟩
  · have hfine : s.msu.leakRange ≠ .ir0 ∧ j.leak.coarser = if j.leak = .ir2 then .ir1 else .ir0 := by
      rcases hrange with ⟨hm, hj⟩ | ⟨hm, hj⟩ <;> rw [hm, hj] <;> decide
    obtain ⟨hne, hcoarser⟩ := hfine
    rw [← hcoarser]
    exact insulationReading_goesOn h hr hj hv hs (insulReading_over hvm hne hl) (applyReading_over hd) ht
  · intro code kohm low hlow
    obtain ⟨hne, hent, hunit, hfiner⟩ : r ≠ .ir2 ∧ s.msu.cal.leak r = e ∧ r.picoamps = unit ∧
        r.finer = if r = .ir0 then .ir1 else .ir2 := by
      rcases hentry with ⟨rfl, rfl, rfl⟩ | ⟨rfl, rfl, rfl⟩ <;> exact ⟨by decide, rfl, rfl, rfl⟩
    have hpos : unit ≠ 0 := by rw [← hunit]; cases r <;> decide
    obtain ⟨b, hread⟩ : ∃ b, insulReading s.msu.cal s.msu.leakRange leak hvm = (v, .value kohm b (some code)) :=
      ⟨_, by rw [hmr, insulReading_code hvm hl, hbus, hent, hcode, hunit, kilohmsOf_code _ _ hpos]⟩
    rw [insulationReading_counts h hr hj hv hs hread hd ht hlow,
      InsulJob.counted_coarse kohm code (by rw [hjr]; exact hne), hjr, hfiner]
    rfl
  · exact command_calm (dwellTimeOut_reading hs hj hv hr) h.1 h.2 id
  · have hpass : insulationIn leak hvm s = fixPass { j with discard := false } s.readingDone :=
      (insulationIn_dwell hr hj hv hs hrd).trans (dwellReading_passes _ (applyReading_discard _ hd) ht)
    rw [fixPass, enterDischarge_spec] at hpass
    exact command_calm hpass h.1 h.2 id

end Sys2Proof.Machine
end

section
/-! PROOFS. Bus monitor readings, and what bus safe leads to; O47. -/

namespace Sys2Proof.Machine

/-! ### The engines' work within a command -/

/-- An act that no record holds back is done, and the engine's work goes on (R173). -/
theorem pump_act {n : Nat} {s : State} {a : Act} {rest : List Act} (ht : s.todo = a :: rest)
    (hh : s.dlg.heldBack = none) : pump (n + 1) s = pump n (runAct a { s with todo := rest }) := by
  simp [pump, ht, heldBack, hh]

/-- The one act that an engine is to do next (R173). -/
theorem pump_next {n : Nat} {s : State} (a : Act) (ht : s.todo = []) (hh : s.dlg.heldBack = none) :
    pump (n + 1) (next [a] s) = pump n (runAct a s) := by
  have hnext : (next [a] s).todo = a :: [] := by simp [ht]
  exact (pump_act hnext hh).trans (congrArg (fun acts => pump n (runAct a { s with todo := acts })) ht.symm)

/-- A command whose effect leaves work to an engine: when that work is done, in a settled state, only the frame link changes
further. -/
theorem command_pumped {f : State → State} {s t u : State} (ht : f s = t) (hr : t.flk.requests = [])
    (hp : pump Config.engineFuel t = u) (hu : u.settled) (hb : u.mxc.batch = none → s.mxc.batch = none) :
    ∃ k, command f s = .next { u with flk := k } := by
  obtain ⟨htodo, hprint, hstream, hstruck⟩ := hu
  obtain ⟨k, hk⟩ := transmit_flk u
  refine ⟨k, ?_⟩
  rw [command, ht, finish]
  simp only [service_idle (Or.inl hr), hp, pump_nil _ htodo, takeAfterSettle_same hb, heldAtEnd_settled hstruck,
    wakePrint_settled hprint, streamFill_settled hstream, hk]
  rw [streamFill_settled (by exact hstream)]

/-! ### The reading (R28, R98, R131) -/

/-- The run clock a millisecond on, as it runs (R98). -/
def State.nextClock (s : State) : Nat :=
  if s.rnc.state = .running ∨ s.rnc.state = .ending then (s.rnc.clock + 1) % 4294967296 else s.rnc.clock

theorem clockTick_eq (s : State) : clockTick s = { s with rnc := { s.rnc with clock := s.nextClock } } := by
  unfold clockTick State.nextClock
  split <;> rfl

/-- The HVC in OFF after a discharge, the bus at `v` millivolts (R135). -/
def Hvc.offAt (h : Hvc) (v : Nat) : Hvc :=
  { h with bus := v, lamp := false, state := .off, timer := false, energised := false, waiters := [] }

/-- The part as bus safe reaches the ISE and the waiters (R135). -/
def State.safeAt (v : Nat) (s : State) : State :=
  { s with rnc := { s.rnc with clock := s.nextClock }, hvc := s.hvc.offAt v }

/-- A reading that ends no discharge sets the bus value and the lamp, and the run clock counts (R28, R98, R131). -/
theorem busReading_only {s : State} {raw : Word16} {v : Nat} (hv : busVoltage s.msu.cal raw = v)
    (h : s.hvc.state ≠ .discharge ∨ 30000 < v) : busReading raw s = { s with
      rnc := { s.rnc with clock := s.nextClock }
      hvc := { s.hvc with bus := v, lamp := decide (30000 < v) || s.hvc.sourceOn } } := by
  have hno : ¬(s.hvc.state = .discharge ∧ v ≤ 30000) := fun ⟨hd, hle⟩ => h.elim (· hd) (Nat.not_lt.mpr hle)
  simp only [busReading, clockTick_eq, hv, setLamp, Config.safeBus]
  exact if_neg hno

/-- In OFF on a safe bus the lamp is dark (R131). -/
theorem setLamp_dark {s : State} (hs : s.hvc.state = .off) (hle : s.hvc.bus ≤ 30000) :
    setLamp s = { s with hvc := { s.hvc with lamp := false } } := by
  have hv : decide (Config.safeBus < s.hvc.bus) = false := decide_eq_false (Nat.not_lt.mpr hle)
  simp [setLamp, Hvc.sourceOn, hs, hv]

/-- Bus safe takes the HVC to OFF, and tells the ISE of an energisation and every waiter (R135). -/
theorem busSafe_eq {s : State} (hle : s.hvc.bus ≤ 30000) : busSafe s =
    s.hvc.waiters.foldl answerSafe
      (let off := { s with hvc := s.hvc.offAt s.hvc.bus }
      if s.hvc.energised = true ∧ s.ise.isSome = true then later [.insulSafe] off else off) := by
  have hdark : setLamp { s with hvc := { s.hvc with state := .off, timer := false, waiters := [], energised := false } } =
      { s with hvc := s.hvc.offAt s.hvc.bus } := setLamp_dark rfl hle
  simp only [busSafe, hdark]
  cases s.hvc.energised <;> cases s.ise <;> rfl

/-- A reading that ends a discharge (R28, R135). -/
theorem busReading_safe {s : State} {raw : Word16} {v : Nat} (hv : busVoltage s.msu.cal raw = v)
    (hd : s.hvc.state = .discharge) (hle : v ≤ 30000) : busReading raw s =
      s.hvc.waiters.foldl answerSafe
        (if s.hvc.energised = true ∧ s.ise.isSome = true then later [.insulSafe] (s.safeAt v) else s.safeAt v) := by
  simp only [busReading, clockTick_eq, hv, setLamp, Config.safeBus]
  exact (if_pos ⟨hd, hle⟩).trans (busSafe_eq hle)

/-! ### The permit of an insulation unit (R97, R98) -/

/-- The hold set once the boundary checks of an insulation unit have looked at the HVC (R97). -/
def HoldSet.checkedBy (h : HoldSet) (v : Hvc) : HoldSet :=
  { h with
    tripLatched := h.tripLatched || v.tripLatch
    guard := h.guard || !v.guardClosed
    linkLost := h.linkLost || v.linkExpired }

/-- A hold set with a reason added if its condition holds. -/
def HoldSet.putIf (h : HoldSet) (c : Bool) (r : HoldReason) : HoldSet := if c then h.put true r else h

theorem HoldSet.checkedBy_eq (h : HoldSet) (v : Hvc) : h.checkedBy v =
    ((h.putIf v.tripLatch .tripLatched).putIf (!v.guardClosed) .guard).putIf v.linkExpired .linkLost := by
  cases ht : v.tripLatch <;> cases hg : v.guardClosed <;> cases hl : v.linkExpired <;>
    simp [HoldSet.checkedBy, HoldSet.putIf, HoldSet.put, ht, hg, hl]

/-- The run with this hold set, and the notices that told of it. -/
def State.holding (h : HoldSet) (q : List Notice) (s : State) : State :=
  { s with rnc := { s.rnc with hold := h }, flk := { s.flk with notices := q } }

/-- A check that adds its reason if its condition holds (R97). -/
theorem addHold_if (c : Bool) (r : HoldReason) (h : HoldSet) (q : List Notice) (s : State) :
    ∃ q', (if c then addHold r (s.holding h q) else s.holding h q) = s.holding (h.putIf c r) q' := by
  cases c
  · exact ⟨q, rfl⟩
  · exact addHold_spec r _

/-- With the entry place empty and a slot free, the checks of an insulation unit are those of the HVC (R97). -/
theorem boundaryChecks_insulation {s : State} (he : s.dlg.entry = none) (hf : 0 < s.dlg.freeSlots) :
    ∃ q, boundaryChecks .insulation s = s.holding (s.rnc.hold.checkedBy s.hvc) q := by
  obtain ⟨q1, h1⟩ := addHold_if s.hvc.tripLatch .tripLatched s.rnc.hold s.flk.notices s
  obtain ⟨q2, h2⟩ := addHold_if (!s.hvc.guardClosed) .guard (s.rnc.hold.putIf s.hvc.tripLatch .tripLatched) q1 s
  obtain ⟨q3, h3⟩ := addHold_if s.hvc.linkExpired .linkLost
    ((s.rnc.hold.putIf s.hvc.tripLatch .tripLatched).putIf (!s.hvc.guardClosed) .guard) q2 s
  have hslot : ¬(s.dlg.entry.isSome || decide (s.dlg.freeSlots = 0)) = true := by simp [he, Nat.ne_of_gt hf]
  have hhvc : ∀ h q, (s.holding h q).hvc = s.hvc := fun _ _ => rfl
  have hguard : ∀ t u : State, (if s.hvc.guardClosed then t else u) = if !s.hvc.guardClosed then u else t := by
    intro t u; cases s.hvc.guardClosed <;> rfl
  change (if s.hvc.tripLatch then addHold .tripLatched s else s) = _ at h1
  refine ⟨q3, ?_⟩
  rw [HoldSet.checkedBy_eq, ← h3, ← h2, ← h1]
  simp only [boundaryChecks, if_neg hslot, h1, hhvc, hguard, h2]
  rfl

/-- A RUNNING run that has taken no end cause (R101). -/
def State.atWork (s : State) : Prop := s.rnc.state = .running ∧ s.rnc.verdict = .none

/-- The state in which a permit's checks are made: the reservation and the unit before it have ended (R97, R173). -/
def State.betweenUnits (s : State) : State :=
  { s with dlg := { s.dlg with reserved := false }, rnc := { s.rnc with unit := none } }

/-- In a RUNNING run a permit is what the boundary checks find (R97). -/
theorem permit_checks {s : State} (k : UnitKind) (hrun : s.atWork) : permit k s =
    let t := boundaryChecks k s.betweenUnits
    if t.rnc.hold.isEmpty then
      (.grant, { t with dlg := { t.dlg with reserved := true }, rnc := { t.rnc with unit := some k } })
    else (.park, enterHeld { t with rnc := { t.rnc with waits := true } }) := by
  obtain ⟨hstate, hverd⟩ := hrun
  have hlive : ¬(!s.betweenUnits.live) = true := by simp [State.betweenUnits, State.live, hstate, hverd]
  have hheld : ¬s.betweenUnits.rnc.state = .held := by simp [State.betweenUnits, hstate]
  exact (if_neg hlive).trans (if_neg hheld)

/-- The checks of an insulation unit's permit, with the entry place empty and a slot free (R97). -/
theorem betweenUnits_checks {s : State} (he : s.dlg.entry = none) (hf : s.dlg.recs.length < 256) :
    ∃ q, boundaryChecks .insulation s.betweenUnits = s.betweenUnits.holding (s.rnc.hold.checkedBy s.hvc) q :=
  boundaryChecks_insulation (s := s.betweenUnits) he (by
    simp [State.betweenUnits, Dlg.freeSlots, Config.logSlots, hf])

/-- A permit that finds a reason: the run is HELD by what was found, and the engine waits (R97). -/
theorem permit_parks {s : State} (hrun : s.atWork) (he : s.dlg.entry = none) (hf : s.dlg.recs.length < 256)
    (hc : s.rnc.hold.checkedBy s.hvc ≠ .empty) : ∃ q, permit .insulation s = (.park, { s with
      dlg := { s.dlg with reserved := false }
      rnc := { s.rnc with hold := s.rnc.hold.checkedBy s.hvc, state := .held, waits := true, unit := none }
      flk := { s.flk with notices := q } }) := by
  obtain ⟨q, hq⟩ := betweenUnits_checks he hf
  have hne : ¬(s.rnc.hold.checkedBy s.hvc).isEmpty = true := by simpa [HoldSet.isEmpty] using hc
  rw [permit_checks _ hrun, hq]
  obtain ⟨q', hq'⟩ := raise_spec .run _ _
  exact ⟨q', (if_neg hne).trans (congrArg (Prod.mk _) hq')⟩

/-- One that finds none is granted, and a slot reserved (R97, R173). -/
theorem permit_grants {s : State} (hrun : s.atWork) (he : s.dlg.entry = none) (hf : s.dlg.recs.length < 256)
    (hc : s.rnc.hold.checkedBy s.hvc = .empty) : ∃ q, permit .insulation s = (.grant, { s with
      dlg := { s.dlg with reserved := true }
      rnc := { s.rnc with hold := .empty, unit := some .insulation }
      flk := { s.flk with notices := q } }) := by
  obtain ⟨q, hq⟩ := betweenUnits_checks he hf
  rw [hc] at hq
  rw [permit_checks _ hrun, hq]
  exact ⟨q, if_pos rfl⟩

/-- In HELD the engine waits, and nothing is checked (R97). -/
theorem permit_held {s : State} (k : UnitKind) (hh : s.rnc.state = .held) (hv : s.rnc.verdict = .none) :
    permit k s = (.park, { s with
      dlg := { s.dlg with reserved := false }, rnc := { s.rnc with waits := true, unit := none } }) := by
  simp [permit, State.live, hh, hv]

/-! ### An insulation unit asks again, its energisation over (R142, R146, R103) -/

/-- GUARD or LINK_LOST struck the energisation and stands: at its end the run is HELD (R103). -/
theorem heldAtEnd_struck {s : State} (hw : s.atWork) (hoff : s.hvc.energised = false) (hs : s.rnc.struck = true)
    (hg : s.rnc.hold.guard = true ∨ s.rnc.hold.linkLost = true) : ∃ q, heldAtEnd s = { s with
      rnc := { s.rnc with struck := false, state := .held }, flk := { s.flk with notices := q } } := by
  obtain ⟨hstate, hverd⟩ := hw
  have hholds : (s.recordable && (s.rnc.hold.guard || s.rnc.hold.linkLost)) = true := by
    simp [State.recordable, hstate, hverd, hg]
  rcases heldAtEnd_spec s with ⟨hno, -⟩ | ⟨-, -, ⟨-, hq⟩ | ⟨hno, -⟩⟩
  · simp [hs, hoff] at hno
  · exact hq
  · rw [hholds] at hno; cases hno

/-- Neither stands, or no strike was made: nothing but the strike is taken (R103). -/
theorem heldAtEnd_notStruck {s : State} (hoff : s.hvc.energised = false)
    (h : s.rnc.struck = false ∨ (s.rnc.hold.guard = false ∧ s.rnc.hold.linkLost = false)) :
    heldAtEnd s = { s with rnc := { s.rnc with struck := false } } := by
  cases hs : s.rnc.struck
  · rw [heldAtEnd_settled (by simp [hs]), ← hs]
  · obtain ⟨hguard, hlink⟩ := h.resolve_left (by simp [hs])
    simp [heldAtEnd, hs, hoff, hguard, hlink]

/-- An INSUL unit asks for its permit at the end of an energisation. -/
structure State.UnitAsks (j : InsulJob) (s : State) : Prop where
  job : s.ise = some j
  stage : j.stage = .unit
  energyOff : s.hvc.energised = false
  work : s.atWork

/-- It is told PARK (R142). -/
theorem askPermit_parked {s u t : State} {j : InsulJob} (h : s.UnitAsks j) (hu : heldAtEnd s = u)
    (hp : permit .insulation u = (.park, t)) (ht : t.ise = some j) : askPermit s = setIse { j with phase := .parked } t := by
  have hkind : askKind s = .insulation := by simp [askKind, h.job, insulKind, h.stage]
  simp [askPermit, hkind, hu, hp, parked, ht, insulParked, h.stage]

/-- It is told GRANT (R142). -/
theorem askPermit_granted {s u t : State} {j : InsulJob} (h : s.UnitAsks j) (hu : heldAtEnd s = u)
    (hp : permit .insulation u = (.grant, t)) (ht : t.ise = some j) : askPermit s =
      requestBatch .ise true (t.members j.net) j.cands (setIse { j with phase := .connecting } t) := by
  have hkind : askKind s = .insulation := by simp [askKind, h.job, insulKind, h.stage]
  simp [askPermit, hkind, hu, hp, granted, ht, insulGranted, h.stage]

/-- GUARD or LINK_LOST struck the energisation: HELD before the permit is asked (R103). -/
theorem askPermit_struck {s : State} {j : InsulJob} (h : s.UnitAsks j) (hs : s.rnc.struck = true)
    (hg : s.rnc.hold.guard = true ∨ s.rnc.hold.linkLost = true) : ∃ q, askPermit s = { s with
      ise := some { j with phase := .parked }
      dlg := { s.dlg with reserved := false }
      rnc := { s.rnc with state := .held, waits := true, unit := none, struck := false }
      flk := { s.flk with notices := q } } := by
  obtain ⟨q, hq⟩ := heldAtEnd_struck h.work h.energyOff hs hg
  obtain ⟨-, hverd⟩ := h.work
  have hpark := askPermit_parked h hq (permit_held .insulation rfl hverd) h.job
  exact ⟨q, hpark⟩

/-- No strike stands: the boundary checks park the unit (R97, R142). -/
theorem askPermit_parks {s : State} {j : InsulJob} (h : s.UnitAsks j)
    (hs : s.rnc.struck = false ∨ (s.rnc.hold.guard = false ∧ s.rnc.hold.linkLost = false)) (he : s.dlg.entry = none)
    (hf : s.dlg.recs.length < 256) (hc : s.rnc.hold.checkedBy s.hvc ≠ .empty) : ∃ q, askPermit s = { s with
      ise := some { j with phase := .parked }
      dlg := { s.dlg with reserved := false }
      rnc := { s.rnc with
        hold := s.rnc.hold.checkedBy s.hvc, state := .held, waits := true, unit := none, struck := false }
      flk := { s.flk with notices := q } } := by
  obtain ⟨q, hq⟩ := permit_parks (s := { s with rnc := { s.rnc with struck := false } }) h.work he hf hc
  have hpark := askPermit_parked h (heldAtEnd_notStruck h.energyOff hs) hq h.job
  exact ⟨q, hpark⟩

/-- A hold set that the checks leave empty was empty, GUARD and LINK_LOST not in it. -/
theorem HoldSet.of_checkedBy_empty {h : HoldSet} {v : Hvc} (hc : h.checkedBy v = .empty) :
    h.guard = false ∧ h.linkLost = false := by
  have hguard := congrArg HoldSet.guard hc
  have hlink := congrArg HoldSet.linkLost hc
  simp [HoldSet.checkedBy, HoldSet.empty] at hguard hlink
  exact ⟨hguard.1, hlink.1⟩

/-- They find nothing: the unit's batch is asked for (R97, R142). -/
theorem askPermit_grants {s : State} {j : InsulJob} (h : s.UnitAsks j) (he : s.dlg.entry = none)
    (hf : s.dlg.recs.length < 256) (hc : s.rnc.hold.checkedBy s.hvc = .empty) : ∃ q, askPermit s = { s with
      ise := some { j with phase := .connecting }
      dlg := { s.dlg with reserved := true }
      rnc := { s.rnc with hold := .empty, unit := some .insulation, struck := false }
      mxc := { s.mxc with held := s.mxc.held ++ [{ a := s.members j.net, b := j.cands, run := true, who := .ise }] }
      flk := { s.flk with notices := q } } := by
  obtain ⟨q, hq⟩ := permit_grants (s := { s with rnc := { s.rnc with struck := false } }) h.work he hf hc
  have hgrant := askPermit_granted h
    (heldAtEnd_notStruck h.energyOff (Or.inr (HoldSet.of_checkedBy_empty hc))) hq h.job
  exact ⟨q, hgrant⟩

/-! ### Bus safe ends an energisation (R135, R145, R146) -/

/-- The reading `raw` finds the bus safe and ends the energisation of an INSUL unit of a run at work. -/
structure State.UnitEnds (raw : Word16) (v : Nat) (j : InsulJob) (s : State) : Prop where
  calm : s.calm
  volts : busVoltage s.msu.cal raw = v
  discharging : s.hvc.state = .discharge
  safe : v ≤ 30000
  noWaiter : s.hvc.waiters = []
  energised : s.hvc.energised = true
  job : s.ise = some j
  stage : j.stage = .unit
  work : s.atWork
  free : s.dlg.heldBack = none

/-- The ISE is told of bus safe (R135). -/
theorem busReading_unitEnds {s : State} {raw : Word16} {v : Nat} {j : InsulJob} (h : s.UnitEnds raw v j) :
    busReading raw s = next [.insulSafe] (s.safeAt v) := by
  rw [busReading_safe h.volts h.discharging h.safe, h.noWaiter, if_pos ⟨h.energised, by simp [h.job]⟩]
  simp [later, next, show (s.safeAt v).todo = [] from h.calm.1.1]

/-- It works on from there. -/
theorem pump_unitEnds {s : State} {raw : Word16} {v : Nat} {j : InsulJob} (h : s.UnitEnds raw v j) :
    pump Config.engineFuel (busReading raw s) = pump 999999 (insulSafe j (s.safeAt v)) := by
  have hact : runAct .insulSafe (s.safeAt v) = insulSafe j (s.safeAt v) := by
    simp [runAct, show (s.safeAt v).ise = some j from h.job]
  rw [busReading_unitEnds h, ← hact]
  exact pump_next .insulSafe h.calm.1.1 h.free

/-- Without a verdict the unit asks again (R146). -/
theorem pump_unitRemoved {s : State} {raw : Word16} {v : Nat} {j : InsulJob} (h : s.UnitEnds raw v j)
    (hv : j.verdict = .none) : pump Config.engineFuel (busReading raw s) =
      pump 999998 (askPermit (setIse { j with phase := .asking } (s.safeAt v))) := by
  have hasks : insulSafe j (s.safeAt v) = next [.ask] (setIse { j with phase := .asking } (s.safeAt v)) := by
    simp [insulSafe, h.stage, hv]
  rw [pump_unitEnds h, hasks]
  exact pump_next .ask h.calm.1.1 h.free

/-- The job as it asks for the unit of net `n` (R140, R142). -/
def InsulJob.onNet (j : InsulJob) (n : Nat) (cands : List Nat) : InsulJob :=
  { j with net := n, stage := .unit, cands := cands, phase := .asking }

/-- After a pass the next net's unit is asked for, which has candidates and a usable member (R145, R140). -/
theorem pump_unitPassed {s : State} {raw : Word16} {v n : Nat} {j : InsulJob} (h : s.UnitEnds raw v j)
    (hv : j.verdict = .pass) (hn : j.nets.find? (fun x => j.net < x) = some n) (hc : s.candidates n ≠ [])
    (hm : ∃ m ∈ s.members n, s.usable m = true) : pump Config.engineFuel (busReading raw s) =
      pump 999997 (askPermit (setIse (j.onNet n (s.candidates n))
        { s.safeAt v with rnc := { (s.safeAt v).rnc with cursor := n } })) := by
  have hnext : insulSafe j (s.safeAt v) = next [.decide] (setIse { j with net := n, stage := .start, phase := .idle }
      { s.safeAt v with rnc := { (s.safeAt v).rnc with cursor := n } }) := by
    simp [insulSafe, h.stage, hv, insulNextNet, hn]
  have hnets : j.nets ≠ [] := by rintro he; simp [he] at hn
  have hany : (s.members n).any s.usable = true := List.any_eq_true.mpr hm
  have hdecide : runAct .decide (setIse { j with net := n, stage := .start, phase := .idle }
      { s.safeAt v with rnc := { (s.safeAt v).rnc with cursor := n } }) =
      next [.ask] (setIse (j.onNet n (s.candidates n))
        { s.safeAt v with rnc := { (s.safeAt v).rnc with cursor := n } }) := by
    refine (if_neg hnets).trans ((if_neg hc).trans (if_pos hany))
  rw [pump_unitEnds h, hnext]
  refine (pump_next .decide (by exact h.calm.1.1) (by exact h.free)).trans ?_
  rw [hdecide]
  exact pump_next .ask h.calm.1.1 h.free

/-- A state stays settled while nothing joins the acts, the log or the printer's slots, and no strike is left. -/
theorem settled_of_same {s u : State} (h : s.settled) (htodo : u.todo = s.todo) (hpre : u.pre = s.pre)
    (hdlg : u.dlg.recs = s.dlg.recs ∧ u.dlg.entry = s.dlg.entry ∧ u.dlg.streaming = s.dlg.streaming)
    (hstruck : u.rnc.struck = false) : u.settled := by
  obtain ⟨hnil, hprint, hstream, -⟩ := h
  obtain ⟨hrecs, hentry, hon⟩ := hdlg
  refine ⟨htodo.trans hnil, ?_, by rw [hrecs, hon]; exact hstream, fun hs => by simp [hstruck] at hs⟩
  simpa only [State.nothingToPrint, runMarked, hpre, hrecs, hentry] using hprint

/-- The command, when the permit's answer leaves nothing to do and the log as it was. -/
theorem unitEnds_command {s t u : State} {raw : Word16} {v n : Nat} {j : InsulJob} (h : s.UnitEnds raw v j)
    (hp : pump Config.engineFuel (busReading raw s) = pump n (askPermit t))
    (hu : askPermit t = u)
    (htodo : u.todo = s.todo) (hpre : u.pre = s.pre)
    (hdlg : u.dlg.recs = s.dlg.recs ∧ u.dlg.entry = s.dlg.entry ∧ u.dlg.streaming = s.dlg.streaming)
    (hstruck : u.rnc.struck = false) (hbatch : u.mxc.batch = s.mxc.batch) :
    ∃ k, exec (.busMonitorReading raw) s = .next { u with flk := k } := by
  rw [hu, pump_nil n (htodo.trans h.calm.1.1)] at hp
  exact command_pumped rfl (by rw [busReading_unitEnds h]; exact h.calm.2) hp
    (settled_of_same h.calm.1 htodo hpre hdlg hstruck) (by rw [hbatch]; exact id)

/-! ### Bus safe and the waiters (R12, R29, R104) -/

/-- With no engine to tell, bus safe goes to the waiters alone. -/
theorem busReading_waiters {s : State} {raw : Word16} {v : Nat} (hv : busVoltage s.msu.cal raw = v)
    (hd : s.hvc.state = .discharge) (hle : v ≤ 30000) (hi : s.ise = none) :
    busReading raw s = s.hvc.waiters.foldl answerSafe (s.safeAt v) := by
  rw [busReading_safe hv hd hle, if_neg (by simp [hi])]

/-- The run enters ENDING and its teardown is asked for (R104). -/
theorem enterEnding_eq (s : State) : ∃ q, enterEnding s = { s with
    rnc := { s.rnc with state := .ending }
    mxc := { s.mxc with held := s.mxc.held ++ [{ a := [], b := [], run := false, who := .teardown }] }
    flk := { s.flk with notices := q } } := by
  obtain ⟨q, hq⟩ := raise_spec .run (nRunPayload { s with rnc := { s.rnc with state := .ending } })
    { s with rnc := { s.rnc with state := .ending } }
  exact ⟨q, congrArg (requestBatch .teardown false [] []) hq⟩

/-- A batch that waits for the bus, the gate closed, begins its open phase when a relay is to open (R12, R14). -/
theorem batchSafe_opens {s : State} {b : Batch} (hb : s.mxc.batch = some b) (hp : b.phase = .busWait)
    (hw : s.msu.window = none) (hc : openCmds b s ≠ []) : batchSafe s =
      setBatch { b with phase := .opening, cmds := openCmds b s, phaseAcked := [], waitMs := 0 } s := by
  have hclose : closeGate s = s := by simp [closeGate, hw]
  simp [batchSafe, hb, hp, hclose, beginOpen_opening hc]

/-- A listed connection that the adjusted target does not want leaves a relay to open (R14). -/
theorem openCmds_ne_nil {b : Batch} {s : State} (hw : b.req.who ≠ .reset)
    (h : ∃ e ∈ s.mxc.conn, e.2 ≠ .opn ∧ b.adj.get .opn e.1 ≠ e.2) : openCmds b s ≠ [] := by
  obtain ⟨⟨p, c⟩, he, hc, hne⟩ := h
  obtain ⟨side, rfl⟩ := exists_connOf hc
  have hcmds : openCmds b s = relayCmds (fun p c => b.adj.get .opn p != c) s.mxc.conn := if_neg hw
  have hmem : ({ point := p, side := side } : RelayCmd) ∈ openCmds b s := by
    rw [hcmds, relayCmds, List.mem_filterMap]
    exact ⟨_, he, by simp [sideOf_eq_some.mpr rfl, hne]⟩
  exact List.ne_nil_of_mem hmem

/-- A window that waits for the bus opens on a still matrix (R29, R13). -/
theorem windowSafe_opens {s : State} {w : WinReq} {ws : List WinReq} (hw : s.msu.waiting = w :: ws)
    (hm : s.moving = false) (hnone : s.msu.window = none) : windowSafe s = { s with msu := { s.msu with
      busWait := false
      contRange := w.range
      waiting := ws
      window := some { owner := w.owner, la := w.la, lb := w.lb, sampling := false } } } := by
  have hopen := openFirst_eq (s := { s with msu := { s.msu with busWait := false } }) hw
  refine Eq.trans (if_neg ?_) hopen
  change ¬(s.moving || s.msu.window.isSome) = true
  simp [hm, hnone]

/-- Settles O47: a reading alone (`busReading_only`), bus safe and each waiter (`busReading_waiters`), and the unit whose
energisation bus safe ends, by the answer to the permit it then asks for (`unitEnds_command`). -/
theorem busReadingEndsADischarge : Obligations.BusReadingEndsADischarge := by
  intro s raw h e k1 k2 v clock off
  have hv : busVoltage s.msu.cal raw = v := by rw [busVoltage_eq, CalEntry.correct_eq]
  clear_value v
  refine ⟨fun hno => command_calm (busReading_only hv hno) h.1 h.2 id, fun hd hle hstruck hi => ?_,
    fun j hd hle hw hen hj hstage hv' hrun hverd hheld hstruck hg => ?_,
    fun j hd hle hw hen hj hstage hrun hverd he hheld hf => ?_⟩
  · have hwaiters := busReading_waiters hv hd hle hi
    have hset := settled_of_same (u := s.safeAt v) h.1 rfl rfl ⟨rfl, rfl, rfl⟩ hstruck
    refine ⟨fun hw => ?_, fun hw hrun => ?_, fun b hw hwin hb hp hopen hwho => ?_, fun wr ws hw hwait hm hwin => ?_⟩ <;>
      rw [hw] at hwaiters
    · exact command_calm hwaiters hset h.2 id
    · obtain ⟨q, hq⟩ := enterEnding_eq (s.safeAt v)
      obtain ⟨k, hk⟩ := command_flk (hwaiters.trans hq) hset h.2 id
      exact ⟨_, hk, rfl, rfl, rfl⟩
    · have hcmds := openCmds_ne_nil (s := s.safeAt v) hwho hopen
      obtain ⟨k, hk⟩ := command_flk (hwaiters.trans (batchSafe_opens hb hp hwin hcmds)) hset h.2 nofun
      exact ⟨_, _, hk, rfl, rfl, rfl, hcmds, rfl, rfl, rfl⟩
    · exact command_calm (hwaiters.trans (windowSafe_opens hwait hm hwin)) hset h.2 id
  · have hends : s.UnitEnds raw v j := ⟨h, hv, hd, hle, hw, hen, hj, hstage, ⟨hrun, hverd⟩, hheld⟩
    obtain ⟨q, hq⟩ := askPermit_struck (s := setIse { j with phase := .asking } (s.safeAt v))
      ⟨rfl, hstage, rfl, hrun, hverd⟩ hstruck hg
    obtain ⟨k, hk⟩ := unitEnds_command hends (pump_unitRemoved hends hv') hq rfl rfl
        ⟨rfl, rfl, rfl⟩ rfl rfl
    exact ⟨_, hk, rfl, rfl, rfl, rfl, rfl⟩
  · have hends : s.UnitEnds raw v j := ⟨h, hv, hd, hle, hw, hen, hj, hstage, ⟨hrun, hverd⟩, hheld⟩
    intro checked
    refine ⟨fun hv' hs hc => ?_, fun hv' hc => ?_, fun n hv' hn hcands hm hc => ?_⟩
    · obtain ⟨q, hq⟩ := askPermit_parks (s := setIse { j with phase := .asking } (s.safeAt v))
        ⟨rfl, hstage, rfl, hrun, hverd⟩ hs he hf hc
      obtain ⟨k, hk⟩ := unitEnds_command hends (pump_unitRemoved hends hv') hq rfl rfl
        ⟨rfl, rfl, rfl⟩ rfl rfl
      exact ⟨_, hk, rfl, rfl, rfl, rfl, rfl⟩
    · obtain ⟨q, hq⟩ := askPermit_grants (s := setIse { j with phase := .asking } (s.safeAt v))
        ⟨rfl, hstage, rfl, hrun, hverd⟩ he hf hc
      obtain ⟨k, hk⟩ := unitEnds_command hends (pump_unitRemoved hends hv') hq rfl rfl
        ⟨rfl, rfl, rfl⟩ rfl rfl
      exact ⟨_, hk, rfl, rfl, hrun, rfl⟩
    · obtain ⟨q, hq⟩ := askPermit_grants (s := setIse (j.onNet n (s.candidates n))
          { s.safeAt v with rnc := { (s.safeAt v).rnc with cursor := n } })
        ⟨rfl, rfl, rfl, hrun, hverd⟩ he hf hc
      obtain ⟨k, hk⟩ := unitEnds_command hends (pump_unitPassed hends hv' hn hcands hm) hq rfl rfl
        ⟨rfl, rfl, rfl⟩ rfl rfl
      exact ⟨_, hk, rfl, rfl, hrun, rfl⟩

end Sys2Proof.Machine
end

section
/-! PROOFS. Requests about the nets: O7, O9, O10, O11. -/

namespace Sys2Proof.Machine

theorem validId_iff (n : Nat) : validId n = true ↔ ¬(n = 0 ∨ 1024 < n) := by
  simp only [validId, Bool.and_eq_true, decide_eq_true_eq]
  simp only [Config.nets]
  omega

/-! ### NET-READ (R73) -/

/-- Settles O7: NET-READ's one check, and the piece it answers with. -/
theorem netReadGivesOnePiece : Obligations.NetReadGivesOnePiece := by
  intro s id piece h
  have hc : carryOut (.netRead id piece) s.taken = doNetRead id piece s.taken := rfl
  have hcheck : (!validId id.toNat || decide (34 < piece.toNat)) = true ↔
      id.toNat = 0 ∨ 1024 < id.toNat ∨ 34 < piece.toNat := by
    rw [Bool.or_eq_true, Bool.not_eq_true', ← Bool.not_eq_true, validId_iff, not_not, decide_eq_true_eq, or_assoc]
  simp only [doNetRead, hcheck] at hc
  change request _ s = _
  split at hc
  · rw [if_pos ‹_›]; exact request_answered _ h _ hc
  rw [if_neg ‹_›, request_answered _ h _ hc]
  have hdefined : le8 (yesNo (!(s.members id.toNat).isEmpty)) = [if s.members id.toNat = [] then 0#8 else 1#8] := by
    cases s.members id.toNat <;> rfl
  dsimp only
  rw [← hdefined]
  rfl

/-! ### NET-ERASE (R72) -/

/-- NET-ERASE's checks in order, with the byte of its flag. -/
theorem doNetErase_eq (all : Byte) (id : Word16) (s : State) :
    doNetErase all id s =
      if s.active then refuse 0x05#8 .busy s
      else if all = 1#8 then
        answer 0x05#8 (le16 s.nst.nets.length ++ le16 (s.nst.nets.map fun e => e.2.length).sum)
          { s with nst := { s.nst with nets := [] } }
      else if all ≠ 0#8 ∨ id.toNat = 0 ∨ 1024 < id.toNat then refuse 0x05#8 .badArg s
      else
        answer 0x05#8 (le16 (if s.members id.toNat = [] then 0 else 1) ++ le16 (s.members id.toNat).length)
          { s with nst := { s.nst with nets := s.nst.nets.set [] id.toNat [] } } := by
  unfold doNetErase
  rcases flagOf_cases all with ⟨rfl, hf⟩ | ⟨rfl, hf⟩ | ⟨hall, hf⟩
  · by_cases hid : id.toNat = 0 ∨ 1024 < id.toNat
    · simp [hf, hid, (validId_iff _).not_left.mpr hid]
    · simp [hf, hid, (validId_iff _).mpr hid]
  · simp [hf]
  · have h0 : all ≠ 0#8 := by rintro rfl; exact absurd hall (by decide)
    have h1 : all ≠ 1#8 := by rintro rfl; exact absurd hall (by decide)
    simp [hf, h0, h1]

/-- Settles O9: each refusal and both erasures answer at once. -/
theorem netEraseUndefinesNets : Obligations.NetEraseUndefinesNets := by
  intro s all id h
  have hc : carryOut (.netErase all id) s.taken = doNetErase all id s.taken := rfl
  rw [doNetErase_eq, show s.taken.active = s.active from rfl] at hc
  change request _ s = _
  split at hc
  · rw [if_pos ‹_›]; exact request_answered _ h _ hc
  rw [if_neg ‹_›]
  split at hc
  · rw [if_pos ‹_›]; exact request_replied _ h _ _ hc h.1.1.taken rfl rfl
  rw [if_neg ‹_›]
  split at hc
  · rw [if_pos ‹_›]; exact request_answered _ h _ hc
  rw [if_neg ‹_›]
  exact request_replied _ h _ _ hc h.1.1.taken rfl rfl

/-! ### NET-WRITE (R68 to R71) -/

/-- The six checks of NET-WRITE in order, on the request's own operands (R68). -/
theorem netWriteRefusal_eq (id : Word16) (flag : Byte) (pts : List Word16) (s : State) :
    netWriteRefusal id.toNat flag (pts.map BitVec.toNat) s =
      if s.active = true then some .busy
      else if id.toNat = 0 ∨ 1024 < id.toNat ∨ 1 < flag.toNat ∨ pts = [] ∨ 120 < pts.length ∨
        ∃ p ∈ pts, 4096 ≤ p.toNat then some .badArg
      else if flag = 1#8 ∧ s.members id.toNat = [] then some .state
      else if ∃ p ∈ pts, s.present p.toNat = false then some .absentPoint
      else if ∃ p ∈ pts, s.netOf p.toNat ≠ 0 ∧ s.netOf p.toNat ≠ id.toNat then some .conflict
      else if flag = 0#8 ∧ s.members id.toNat = [] ∧ 1024 ≤ s.nst.nets.length then some .noRoom
      else none := by
  have hflag : flag = 0#8 ∨ flag = 1#8 ↔ ¬1 < flag.toNat := by
    constructor
    · rintro (rfl | rfl) <;> decide
    · intro h; bv_omega
  have hargs : (!validId id.toNat || !(flag == 0#8 || flag == 1#8) || (pts.map BitVec.toNat).length == 0 ||
      decide (Config.netWritePoints < (pts.map BitVec.toNat).length) ||
      (pts.map BitVec.toNat).any fun p => decide (Config.points ≤ p)) = true ↔
      id.toNat = 0 ∨ 1024 < id.toNat ∨ 1 < flag.toNat ∨ pts = [] ∨ 120 < pts.length ∨ ∃ p ∈ pts, 4096 ≤ p.toNat := by
    simp only [Bool.or_eq_true, Bool.not_eq_true', ← Bool.not_eq_true, validId_iff, beq_iff_eq, hflag, not_not,
      decide_eq_true_eq, List.length_map, List.length_eq_zero_iff, List.any_map, List.any_eq_true,
      Function.comp_apply, or_assoc]
    rfl
  unfold netWriteRefusal
  simp only [hargs]
  simp only [List.beq_nil_eq, Bool.and_eq_true, beq_iff_eq, List.isEmpty_iff, List.any_map, List.any_eq_true,
    Function.comp_apply, Bool.not_eq_true', bne_iff_ne, decide_eq_true_eq, and_assoc]
  rfl

/-- A NET-WRITE that fails a check is refused, the table being unchanged (R68). -/
theorem netWrite_refused {s : State} {id : Word16} {flag : Byte} {pts : List Word16} {c : RefusalCode} (h : s.quiet)
    (hc : netWriteRefusal id.toNat flag (pts.map BitVec.toNat) s = some c) :
    exec (.netWrite id flag pts) s = .next (s.refusedWith 0x06#8 c) := by
  have htaken : netWriteRefusal id.toNat flag (pts.map BitVec.toNat) s.taken = some c := hc
  refine request_answered (.netWrite id flag pts) h _ ?_
  change doNetWrite id flag pts s.taken = _
  rw [doNetWrite, htaken]
  rfl

/-- Settles O10: the first check that fails is the one `netWriteRefusal_eq` comes to. -/
theorem netWriteChecksInOrder : Obligations.NetWriteChecksInOrder := by
  intro s id flag pts h c1 c2 c3 c4 c5 c6
  have hc := netWriteRefusal_eq id flag pts s
  refine ⟨fun h1 => ?busy, fun h1 h2 => ?badArg, fun h1 h2 h3 => ?state, fun h1 h2 h3 h4 => ?absent,
    fun h1 h2 h3 h4 h5 => ?conflict, fun h1 h2 h3 h4 h5 h6 => ?noRoom⟩ <;> refine netWrite_refused h (hc.trans ?_)
  case busy => rw [if_pos h1]
  case badArg => rw [if_neg h1, if_pos h2]
  case state => rw [if_neg h1, if_neg h2, if_pos h3]
  case absent => rw [if_neg h1, if_neg h2, if_neg h3, if_pos h4]
  case conflict => rw [if_neg h1, if_neg h2, if_neg h3, if_neg h4, if_pos h5]
  case noRoom => rw [if_neg h1, if_neg h2, if_neg h3, if_neg h4, if_neg h5, if_pos h6]

/-- The members after an accepted NET-WRITE: ascending, the listed points alone (NEW) or with the old members (APPEND)
(R69, R70). -/
theorem netAfter_spec {old : List Nat} {flag : Byte} (pts : List Nat) (hflag : flag.toNat ≤ 1)
    (hold : old.Pairwise (· < ·)) :
    (netAfter old flag pts).Pairwise (· < ·) ∧
    ∀ q, q ∈ netAfter old flag pts ↔ q ∈ pts ∨ (flag = 1#8 ∧ q ∈ old) := by
  rcases flagOf_cases flag with ⟨rfl, -⟩ | ⟨rfl, -⟩ | ⟨hbig, -⟩
  · obtain ⟨hsorted, hmem⟩ := sortAsc_spec pts
    exact ⟨hsorted, fun q => (hmem q).trans (by simp)⟩
  · obtain ⟨hsorted, hmem⟩ := foldl_insertAsc pts old hold
    exact ⟨hsorted, fun q => (hmem q).trans (by simp)⟩
  · exact absurd hflag (Nat.not_le.mpr hbig)

/-- A NET-WRITE that passes the six checks stores the members and answers with their counts (R69 to R71). -/
theorem netWrite_accepted {s : State} {id : Word16} {flag : Byte} {pts : List Word16} (h : s.quiet)
    (hc : netWriteRefusal id.toNat flag (pts.map BitVec.toNat) s = none) :
    exec (.netWrite id flag pts) s = .next
      (let ms := netAfter (s.members id.toNat) flag (pts.map BitVec.toNat)
      let added := ms.length - (if flag = 0#8 then [] else s.members id.toNat).length
      { s.answered 0x06#8 (le16 id.toNat ++ le8 added ++ le8 (pts.length - added) ++ le16 ms.length ++
          le16 (ms.headD 0)) with
        nst := { s.nst with nets := s.nst.nets.set [] id.toNat ms } }) := by
  have htaken : netWriteRefusal id.toNat flag (pts.map BitVec.toNat) s.taken = none := hc
  have hdo : carryOut (.netWrite id flag pts) s.taken = doNetWrite id flag pts s.taken := rfl
  rw [doNetWrite, htaken] at hdo
  dsimp only at hdo
  rw [List.length_map] at hdo
  exact request_replied _ h _ _ hdo h.1.1.taken rfl rfl

/-- Settles O11: no check fails, and the net is what `netAfter_spec` says. -/
theorem netWriteBuildsTheNet : Obligations.NetWriteBuildsTheNet := by
  intro s id flag pts h hactive hid1 hid2 hflag hne hlen hpts happend hroom hsorted
  have hargs : ¬(id.toNat = 0 ∨ 1024 < id.toNat ∨ 1 < flag.toNat ∨ pts = [] ∨ 120 < pts.length ∨
      ∃ p ∈ pts, 4096 ≤ p.toNat) := by
    rintro (hz | hbig | hf | hnil | hlong | ⟨p, hp, hbig⟩)
    · omega
    · omega
    · omega
    · exact hne hnil
    · omega
    · exact Nat.not_le.mpr (hpts p hp).1 hbig
  have hpresent : ¬∃ p ∈ pts, s.present p.toNat = false := fun ⟨p, hp, habs⟩ => by
    simp [(hpts p hp).2.1] at habs
  have hfree : ¬∃ p ∈ pts, s.netOf p.toNat ≠ 0 ∧ s.netOf p.toNat ≠ id.toNat := fun ⟨p, hp, h0, hother⟩ =>
    (hpts p hp).2.2.elim h0 hother
  have hc : netWriteRefusal id.toNat flag (pts.map BitVec.toNat) s = none := by
    rw [netWriteRefusal_eq, if_neg (by simp [hactive]), if_neg hargs, if_neg fun hs => happend hs.1 hs.2,
      if_neg hpresent, if_neg hfree, if_neg fun hs => Nat.not_le.mpr (hroom hs.2.1) hs.2.2]
  obtain ⟨hasc, hmem⟩ := netAfter_spec (pts.map BitVec.toNat) hflag hsorted
  refine ⟨_, hasc, hmem, (netWrite_accepted h hc).trans ?_⟩
  have hold : (if flag = 0#8 then [] else s.members id.toNat).length =
      if flag = 1#8 then (s.members id.toNat).length else 0 := by
    rcases flagOf_cases flag with ⟨rfl, -⟩ | ⟨rfl, -⟩ | ⟨hbig, -⟩
    · rfl
    · rfl
    · omega
  rw [hold]

end Sys2Proof.Machine
end

section
/-! PROOFS. Requests about the plan and the actions: O6, O13, O14, O15. -/

namespace Sys2Proof.Machine

/-! ### PLAN-READ, PLAN-ERASE and PLAN-ADD (R86, R87, R91) -/

/-- Settles O6: PLAN-READ is answered with the step at the index, if there is one. -/
theorem planReadGivesTheStep : Obligations.PlanReadGivesTheStep := by
  intro s i h
  refine (request_answered (.planRead i) h _ rfl).trans ?_
  have hstep : (match s.rnc.plan[i.toNat]? with
      | some st => st.bytes
      | none => []) = if h : i.toNat < s.rnc.plan.length then s.rnc.plan[i.toNat].bytes else [] := by
    by_cases hi : i.toNat < s.rnc.plan.length <;> simp [hi]
  rw [← hstep]
  rfl

/-- PLAN-ADD whose arguments give a step: the first check that fails, or the step appended (R87). -/
theorem planAdd_checked {s : State} {b : PlanBlock} {st : PlanStep} (h : s.quiet) (ha : s.active = false)
    (hst : storedStep b = some st) : exec (.planAdd b) s = .next (match planAddRefusal st s with
      | some c => s.refusedWith 0x0C#8 c
      | none => { s.answered 0x0C#8 (le8 s.rnc.plan.length ++ st.bytes) with
                  rnc := { s.rnc with plan := s.rnc.plan ++ [st] } }) := by
  have hadd : carryOut (.planAdd b) s.taken = doPlanAdd b s.taken := rfl
  have hactive : ¬s.taken.active = true := Bool.eq_false_iff.mp ha
  have hcheck : planAddRefusal st s.taken = planAddRefusal st s := rfl
  rw [doPlanAdd, if_neg hactive, hst] at hadd
  simp only [hcheck] at hadd
  cases hc : planAddRefusal st s <;> rw [hc] at hadd
  · exact request_replied _ h _ _ hadd h.1.1.taken rfl rfl
  · exact request_answered _ h _ hadd

/-- Settles O13: both requests' checks in order, each answered at once. -/
theorem planIsErasedAndGrown : Obligations.PlanIsErasedAndGrown := by
  intro s b h
  refine ⟨?_, ?_⟩
  · have herase : carryOut .planErase s.taken = doPlanErase s.taken := rfl
    change request _ s = _
    rw [doPlanErase, show s.taken.active = s.active from rfl] at herase
    split at herase
    · rw [if_pos ‹_›]; exact request_answered _ h _ herase
    rw [if_neg ‹_›]
    exact request_replied _ h _ _ herase h.1.1.taken rfl rfl
  · by_cases ha : s.active = true
    · rw [if_pos ha]
      exact request_answered (.planAdd b) h _ (if_pos ha)
    rw [if_neg ha]
    cases hst : storedStep b with
    | none =>
      have hadd : carryOut (.planAdd b) s.taken = doPlanAdd b s.taken := rfl
      rw [doPlanAdd, if_neg (by exact ha), hst] at hadd
      exact request_answered _ h _ hadd
    | some st =>
      refine (planAdd_checked h (Bool.eq_false_iff.mpr ha) hst).trans (congrArg Host.Outcome.next ?_)
      have hsteps : Config.planSteps = 32 := rfl
      by_cases hroom : 32 ≤ s.rnc.plan.length
      · simp [planAddRefusal, hsteps, hroom]
      · cases st with
        | cont p => simp [planAddRefusal, hsteps, hroom]
        | insul p =>
          cases hr : s.ratingLimit with
          | none => simp [planAddRefusal, hsteps, hroom, overRating, hr]
          | some r => by_cases hv : r < p.volts <;> simp [planAddRefusal, hsteps, hroom, overRating, hr, hv]
        | watch p =>
          cases hp : p.pairs.any fun q => !(s.present q.1 && s.present q.2) <;>
            simp only [planAddRefusal, hsteps, hroom, hp] <;> rfl

/-! ### The parameters of a step, as stored (R87 to R90) -/

/-- An on/off parameter: no code above 1 is one (R206). -/
theorem flagParam_eq (mask : Word16) (i : Nat) (b : Byte) (d : Bool) : flagParam mask i b d =
    if given mask i = true ∧ 1 < b.toNat then none else some (if given mask i then b == 1#8 else d) := by
  unfold flagParam
  cases given mask i
  · simp
  · rcases flagOf_cases b with ⟨rfl, hf⟩ | ⟨rfl, hf⟩ | ⟨hb, hf⟩
    · simp [hf]
    · simp [hf]
    · simp [hf, hb]

/-- A range code above 3 is none; the others are the codes of the four selections (R206). -/
theorem rangeOfCode_cases (n : Nat) :
    (3 < n ∧ RangeSel.ofCode n = none) ∨ (n ≤ 3 ∧ ∃ r, RangeSel.ofCode n = some r ∧ r.code = n) := by
  match n with
  | 0 => exact Or.inr ⟨by decide, _, rfl, rfl⟩
  | 1 => exact Or.inr ⟨by decide, _, rfl, rfl⟩
  | 2 => exact Or.inr ⟨by decide, _, rfl, rfl⟩
  | 3 => exact Or.inr ⟨by decide, _, rfl, rfl⟩
  | n + 4 => exact Or.inl ⟨by omega, rfl⟩

/-- A CONT block with a bad parameter: a net bound left out, an empty net range, no range code, no flag (R87, R88). -/
def contBad (b : ContBlock) : Prop :=
  given b.mask 0 = false ∨ given b.mask 1 = false ∨ clamp 1 1024 b.last.toNat < clamp 1 1024 b.first.toNat ∨
    (given b.mask 2 = true ∧ 3 < b.range.toNat) ∨ (given b.mask 6 = true ∧ 1 < b.shorts.toNat)

theorem not_contBad {b : ContBlock} : ¬contBad b ↔ given b.mask 0 = true ∧ given b.mask 1 = true ∧
    ¬clamp 1 1024 b.last.toNat < clamp 1 1024 b.first.toNat ∧ ¬(given b.mask 2 = true ∧ 3 < b.range.toNat) ∧
    ¬(given b.mask 6 = true ∧ 1 < b.shorts.toNat) := by
  simp only [contBad, not_or, Bool.not_eq_false]

/-- A CONT step as its parameters are clamped, and defaulted where they are left out (R88). -/
def contStored (b : ContBlock) : ContParams :=
  { first := clamp 1 1024 b.first.toNat, last := clamp 1 1024 b.last.toNat,
    range := if given b.mask 2 then (RangeSel.ofCode b.range.toNat).getD .auto else .auto,
    n := clamp 1 8 (orDefault b.mask 3 b.n.toNat 2),
    rgood := lowered (clamp 0 10485600 (orDefault b.mask 4 b.rgood.toNat 5000))
      (clamp 0 10485600 (orDefault b.mask 5 b.ropen.toNat 100000)),
    ropen := clamp 0 10485600 (orDefault b.mask 5 b.ropen.toNat 100000),
    shorts := if given b.mask 6 then b.shorts == 1#8 else true,
    rshort := clamp 0 10485600 (orDefault b.mask 7 b.rshort.toNat 10000000) }

theorem contStep_bad {b : ContBlock} (h : contBad b) : storedStep (.cont b) = none := by
  change contStep b = none
  unfold contStep
  rcases h with h | h | h | ⟨hm, hr⟩ | hs
  · simp [h]
  · simp [h]
  · simp [h]
  · rcases rangeOfCode_cases b.range.toNat with ⟨-, hnone⟩ | ⟨hle, -⟩
    · simp [hm, hnone]
    · omega
  · simp [flagParam_eq, hs]

theorem contStep_stored {b : ContBlock} (h : ¬contBad b) : storedStep (.cont b) = some (.cont (contStored b)) := by
  obtain ⟨h0, h1, hnets, hrange, hshorts⟩ := not_contBad.mp h
  have hsel : (if given b.mask 2 then RangeSel.ofCode b.range.toNat else some .auto) = some (contStored b).range := by
    cases hm : given b.mask 2
    · simp [contStored, hm]
    · rcases rangeOfCode_cases b.range.toNat with ⟨hbig, -⟩ | ⟨-, r, hr, -⟩
      · exact absurd ⟨hm, hbig⟩ hrange
      · simp [contStored, hm, hr]
  have hflag := (flagParam_eq b.mask 6 b.shorts true).trans (if_neg hshorts)
  change contStep b = _
  simp only [contStep, h0, h1, hsel, hflag, if_neg hnets]
  rfl

/-- An INSUL block with a bad parameter (R87, R89). -/
def insulBad (b : InsulBlock) : Prop :=
  given b.mask 0 = false ∨ given b.mask 1 = false ∨ given b.mask 2 = false ∨
    clamp 1 1024 b.last.toNat < clamp 1 1024 b.first.toNat ∨ (given b.mask 11 = true ∧ 1 < b.localise.toNat)

theorem not_insulBad {b : InsulBlock} : ¬insulBad b ↔ given b.mask 0 = true ∧ given b.mask 1 = true ∧
    given b.mask 2 = true ∧ ¬clamp 1 1024 b.last.toNat < clamp 1 1024 b.first.toNat ∧
    ¬(given b.mask 11 = true ∧ 1 < b.localise.toNat) := by
  simp only [insulBad, not_or, Bool.not_eq_false]

/-- An INSUL step as stored (R89). -/
def insulStored (b : InsulBlock) : InsulParams :=
  { first := clamp 1 1024 b.first.toNat, last := clamp 1 1024 b.last.toNat,
    volts := clamp 50 1500 (b.volts.toNat / 10 * 10), slew := clamp 50 5000 (orDefault b.mask 3 b.slew.toNat 500),
    dwell := clamp 10 60000 (orDefault b.mask 4 b.dwell.toNat 1000),
    rmin := clamp 1 4000000 (orDefault b.mask 5 b.rmin.toNat 100), n := clamp 1 8 (orDefault b.mask 6 b.n.toNat 3),
    arcThr := clamp 1 60 (orDefault b.mask 7 b.arcThr.toNat 20),
    arcCount := clamp 1 255 (orDefault b.mask 8 b.arcCount.toNat 5),
    tripLevel := clamp 1 60 (orDefault b.mask 9 b.tripLevel.toNat 50),
    tripDelay := clamp 0 50 (orDefault b.mask 10 b.tripDelay.toNat 10),
    localise := if given b.mask 11 then b.localise == 1#8 else true }

theorem insulStep_bad {b : InsulBlock} (h : insulBad b) : storedStep (.insul b) = none := by
  change insulStep b = none
  unfold insulStep
  rcases h with h | h | h | h | hs
  · simp [h]
  · simp [h]
  · simp [h]
  · simp [h]
  · simp [flagParam_eq, hs]

theorem insulStep_stored {b : InsulBlock} (h : ¬insulBad b) : storedStep (.insul b) = some (.insul (insulStored b)) := by
  obtain ⟨h0, h1, h2, hnets, hlocalise⟩ := not_insulBad.mp h
  have hflag := (flagParam_eq b.mask 11 b.localise true).trans (if_neg hlocalise)
  change insulStep b = _
  simp only [insulStep, h0, h1, h2, hflag, if_neg hnets]
  rfl

/-- A WATCH block with a bad parameter: no pairs or too many, a pair that is none, a range that is not fixed (R87, R90). -/
def watchBad (b : WatchBlock) : Prop :=
  given b.mask 6 = false ∨ b.pairs = [] ∨ 16 < b.pairs.length ∨
    (∃ q ∈ b.pairs, 4096 ≤ q.1.toNat ∨ 4096 ≤ q.2.toNat ∨ q.1 = q.2) ∨ (given b.mask 0 = true ∧ 2 < b.range.toNat)

theorem not_watchBad {b : WatchBlock} : ¬watchBad b ↔ given b.mask 6 = true ∧ b.pairs ≠ [] ∧ ¬16 < b.pairs.length ∧
    (¬∃ q ∈ b.pairs, 4096 ≤ q.1.toNat ∨ 4096 ≤ q.2.toNat ∨ q.1 = q.2) ∧
    ¬(given b.mask 0 = true ∧ 2 < b.range.toNat) := by
  simp only [watchBad, not_or, Bool.not_eq_false, ne_eq]

/-- The fixed range of a code, CR1 for what is none. -/
def fixedRange (code : Nat) : CRange :=
  match RangeSel.ofCode code with
  | some (.fixed r) => r
  | _ => .cr1

/-- A WATCH step as stored (R90). -/
def watchStored (b : WatchBlock) : WatchParams :=
  { range := if given b.mask 0 then fixedRange b.range.toNat else .cr1,
    rgood := lowered (clamp 0 10485600 (orDefault b.mask 1 b.rgood.toNat 5000))
      (clamp 0 10485600 (orDefault b.mask 2 b.ropen.toNat 100000)),
    ropen := clamp 0 10485600 (orDefault b.mask 2 b.ropen.toNat 100000),
    minBreak := clamp 1 8 (orDefault b.mask 3 b.minBreak.toNat 1),
    quiet := clamp 1 600 (orDefault b.mask 4 b.quiet.toNat 30),
    maxTime := clamp 1 3600 (orDefault b.mask 5 b.maxTime.toNat 300),
    pairs := b.pairs.map fun q => (q.1.toNat, q.2.toNat) }

/-- Codes 0 to 2 are the fixed ranges, in index order (R206). -/
theorem ofCode_fixed {n : Nat} (h : n ≤ 2) :
    RangeSel.ofCode n = some (.fixed (fixedRange n)) ∧ (fixedRange n).index = n := by
  match n with
  | 0 => exact ⟨rfl, rfl⟩
  | 1 => exact ⟨rfl, rfl⟩
  | 2 => exact ⟨rfl, rfl⟩

/-- Above 2 no code is a fixed range. -/
theorem ofCode_notFixed {n : Nat} (h : 2 < n) (r : CRange) : RangeSel.ofCode n ≠ some (.fixed r) := by
  match n with
  | 3 => nofun
  | n + 4 => nofun

/-- The check of a WATCH block's pairs (R90). -/
theorem watchPairs_any (ps : List (Word16 × Word16)) :
    (ps.map fun q => (q.1.toNat, q.2.toNat)).any (fun q => Config.points ≤ q.1 || Config.points ≤ q.2 || q.1 == q.2) = true ↔
      ∃ q ∈ ps, 4096 ≤ q.1.toNat ∨ 4096 ≤ q.2.toNat ∨ q.1 = q.2 := by
  simp only [List.any_map, List.any_eq_true, Function.comp_apply, Bool.or_eq_true, decide_eq_true_eq, beq_iff_eq,
    BitVec.toNat_inj, or_assoc]
  rfl

theorem watchStep_bad {b : WatchBlock} (h : watchBad b) : storedStep (.watch b) = none := by
  change watchStep b = none
  unfold watchStep
  rcases h with h | h | h | h | ⟨hm, hr⟩
  · simp [h]
  · simp [h]
  · simp [h]
  · simp only [(watchPairs_any b.pairs).mpr h, if_true, ite_self]
  · simp only [hm, if_true]
    split
    · rfl
    · split
      · rfl
      · split
        · exact absurd ‹_› (ofCode_notFixed hr _)
        · rfl

theorem watchStep_stored {b : WatchBlock} (h : ¬watchBad b) : storedStep (.watch b) = some (.watch (watchStored b)) := by
  obtain ⟨h6, hne, hlen, hpairs, hrange⟩ := not_watchBad.mp h
  rw [← watchPairs_any] at hpairs
  have hsel : (if given b.mask 0 then RangeSel.ofCode b.range.toNat else some (.fixed .cr1)) =
      some (.fixed (watchStored b).range) := by
    cases hm : given b.mask 0
    · simp [watchStored, hm]
    · have hle : b.range.toNat ≤ 2 := Nat.not_lt.mp fun hbig => hrange ⟨hm, hbig⟩
      simp [watchStored, hm, (ofCode_fixed hle).1]
  have hcount : ¬(!given b.mask 6 || (b.pairs.map fun q => (q.1.toNat, q.2.toNat)).length == 0 ||
      decide (16 < (b.pairs.map fun q => (q.1.toNat, q.2.toNat)).length)) = true := by simp [h6, hne, hlen]
  change watchStep b = _
  simp only [watchStep, if_neg hcount, if_neg hpairs, hsel]
  rfl

/-- The stored voltage lies in its range and is a multiple of 10 V (R89). -/
theorem storedVolts_spec (v : Nat) : clamp 50 1500 (v / 10 * 10) = max 50 (min 1500 (v - v % 10)) ∧
    50 ≤ clamp 50 1500 (v / 10 * 10) ∧ clamp 50 1500 (v / 10 * 10) ≤ 1500 ∧ clamp 50 1500 (v / 10 * 10) % 10 = 0 := by
  unfold clamp
  omega

theorem clamp_bounds {lo hi : Nat} (h : lo ≤ hi) (n : Nat) : lo ≤ clamp lo hi n ∧ clamp lo hi n ≤ hi := by
  unfold clamp
  omega

theorem contStored_range {b : ContBlock} (h : ¬contBad b) :
    (contStored b).range.code = if given b.mask 2 then b.range.toNat else 3 := by
  obtain ⟨-, -, -, hrange, -⟩ := not_contBad.mp h
  cases hm : given b.mask 2
  · simp [contStored, hm, RangeSel.code]
  · rcases rangeOfCode_cases b.range.toNat with ⟨hbig, -⟩ | ⟨-, r, hr, hcode⟩
    · exact absurd ⟨hm, hbig⟩ hrange
    · simp [contStored, hm, hr, hcode]

theorem watchStored_range {b : WatchBlock} (h : ¬watchBad b) :
    (watchStored b).range.index = if given b.mask 0 then b.range.toNat else 1 := by
  obtain ⟨-, -, -, -, hrange⟩ := not_watchBad.mp h
  cases hm : given b.mask 0
  · simp [watchStored, hm, CRange.index]
  · have hle : b.range.toNat ≤ 2 := Nat.not_lt.mp fun hbig => hrange ⟨hm, hbig⟩
    simp [watchStored, hm, (ofCode_fixed hle).2]

/-- Settles O14: of each kind a block with a bad parameter gives no step, and any other is stored as `contStored`,
`insulStored` and `watchStored` say. -/
theorem storedStepsLieInTheirRanges : Obligations.StoredStepsLieInTheirRanges := by
  have hlo : ∀ {lo hi : Nat} (n : Nat), lo ≤ hi → lo ≤ clamp lo hi n := fun n h => (clamp_bounds h n).1
  have hhi : ∀ {lo hi : Nat} (n : Nat), lo ≤ hi → clamp lo hi n ≤ hi := fun n h => (clamp_bounds h n).2
  refine ⟨fun b => ⟨contStep_bad, fun hb => ?cont⟩, fun b => ⟨insulStep_bad, fun hb => ?insul⟩,
    fun b => ⟨watchStep_bad, fun hb => ?watch⟩, fun _ _ => rfl⟩
  case cont =>
    obtain ⟨-, -, hnets, -⟩ := not_contBad.mp hb
    exact ⟨_, contStep_stored hb, rfl, rfl, contStored_range hb, rfl, rfl, Nat.min_comm .., rfl, rfl,
      hlo _ (by decide), Nat.not_lt.mp hnets, hhi _ (by decide), hlo _ (by decide), hhi _ (by decide),
      Nat.min_le_right .., hhi _ (by decide), hhi _ (by decide)⟩
  case insul =>
    obtain ⟨-, -, -, hnets, -⟩ := not_insulBad.mp hb
    obtain ⟨hvolts, hrange⟩ := storedVolts_spec b.volts.toNat
    exact ⟨_, insulStep_stored hb, rfl, rfl, hvolts, rfl, rfl, rfl, rfl, rfl, rfl, rfl, rfl, rfl,
      hlo _ (by decide), Nat.not_lt.mp hnets, hhi _ (by decide), hrange⟩
  case watch =>
    exact ⟨_, watchStep_stored hb, watchStored_range hb, rfl, Nat.min_comm .., rfl, rfl, rfl, rfl,
      Nat.min_le_right .., hhi _ (by decide)⟩

/-! ### ACTIONS-WRITE (R92) -/

/-- The action a code stands for (R92); 2 and above read as ABORT. -/
def actionOfCode : Nat → Action
  | 0 => .log
  | 1 => .hold
  | _ => .abort

theorem ofCode_action (n : Nat) : Action.ofCode n = if n ≤ 2 then some (actionOfCode n) else none := by
  match n with
  | 0 => rfl
  | 1 => rfl
  | 2 => rfl
  | n + 3 => exact (if_neg (by omega)).symm

/-- The actions of a payload whose codes are all actions (R92). -/
theorem readActions_eq {codes : List Byte} (h : ∀ c ∈ codes, c.toNat ≤ 2) :
    readActions codes = some (codes.map fun c => actionOfCode c.toNat) := by
  unfold readActions
  induction codes with
  | nil => rfl
  | cons c cs ih =>
    have hc : Action.ofCode c.toNat = some (actionOfCode c.toNat) := (ofCode_action _).trans (if_pos (h c (by simp)))
    simp [List.mapM_cons, hc, ih fun x hx => h x (by simp [hx])]

/-- One code that is none spoils the payload (R92). -/
theorem readActions_bad {codes : List Byte} (h : ∃ c ∈ codes, 2 < c.toNat) : readActions codes = none := by
  unfold readActions
  induction codes with
  | nil => simp at h
  | cons c cs ih =>
    by_cases hc : c.toNat ≤ 2
    · have hcs : ∃ x ∈ cs, 2 < x.toNat := by
        obtain ⟨x, hx, hbig⟩ := h
        rcases List.mem_cons.mp hx with rfl | hx
        · omega
        · exact ⟨x, hx, hbig⟩
      cases Action.ofCode c.toNat <;> simp [List.mapM_cons, ih hcs]
    · have hbad : Action.ofCode c.toNat = none := (ofCode_action _).trans (if_neg hc)
      simp [List.mapM_cons, hbad]

/-- Settles O15: the two refusals, and the actions as stored. -/
theorem actionsWriteStoresUnderRestrictions : Obligations.ActionsWriteStoresUnderRestrictions := by
  intro s codes limit h hlen
  have hc : carryOut (.actionsWrite codes limit) s.taken = doActionsWrite codes limit s.taken := rfl
  refine ⟨fun ha => ?_, fun ha hbad => ?_, fun ha hok => ?_⟩
  · rw [doActionsWrite, if_pos (by exact ha)] at hc
    exact request_answered _ h _ hc
  · rw [doActionsWrite, if_neg (by exact Bool.eq_false_iff.mp ha), readActions_bad hbad] at hc
    exact request_answered _ h _ hc
  · rw [doActionsWrite, if_neg (by exact Bool.eq_false_iff.mp ha), readActions_eq hok] at hc
    refine ⟨_, fun i => ?_, request_replied _ h _ _ hc h.1.1.taken rfl rfl⟩
    have hi : i.val < codes.length := by omega
    rw [Vector.get_ofFn]
    simp only [storedAction, List.getD_eq_getElem?_getD, List.getElem?_map, List.getElem?_eq_getElem hi, Option.map_some,
      Option.getD_some]
    by_cases h10 : i.val = 10
    · simp [h10]
    · have hcode := hok _ (List.getElem_mem hi)
      interval_cases hn : codes[i.val].toNat <;> simp [h10, actionOfCode]

end Sys2Proof.Machine
end

section
/-! PROOFS. The checks of the three starts, and PAUSE: O16, O20, O21. -/

namespace Sys2Proof.Machine

/-! ### The checks (R94, R77) -/

/-- The plan has a step that is tested on nets, and no net is testable (R94). -/
def State.lacksNets (s : State) : Bool :=
  (s.rnc.plan.any fun st => match st with
    | .watch _ => false
    | _ => true) && !(s.nst.nets.any fun e => 2 ≤ e.2.length)

/-- The plan has a voltage above the rating limit (R94). -/
def State.exceedsRating (s : State) : Bool :=
  s.rnc.plan.any fun st => match st with
    | .insul p => overRating s p.volts
    | _ => false

theorem State.lacksNets_iff (s : State) : s.lacksNets = true ↔
    (∃ st ∈ s.rnc.plan, (∃ p, st = .cont p) ∨ ∃ p, st = .insul p) ∧ ∀ e ∈ s.nst.nets, e.2.length < 2 := by
  have hkind : ∀ st : PlanStep, (match st with
      | .watch _ => false
      | _ => true) = true ↔ (∃ p, st = .cont p) ∨ ∃ p, st = .insul p := by
    intro st; cases st <;> simp
  simp only [State.lacksNets, Bool.and_eq_true, List.any_eq_true, hkind, Bool.not_eq_true', List.any_eq_false,
    decide_eq_true_eq, not_le]

theorem overRating_iff (s : State) (v : Nat) : overRating s v = true ↔ ∃ r, s.ratingLimit = some r ∧ r < v := by
  unfold overRating
  cases s.ratingLimit <;> simp

theorem State.exceedsRating_iff (s : State) : s.exceedsRating = true ↔
    ∃ st ∈ s.rnc.plan, ∃ p r, st = .insul p ∧ s.ratingLimit = some r ∧ r < p.volts := by
  have hkind : ∀ st : PlanStep, (match st with
      | .insul p => overRating s p.volts
      | _ => false) = true ↔ ∃ p r, st = .insul p ∧ s.ratingLimit = some r ∧ r < p.volts := by
    intro st; cases st <;> simp [overRating_iff]
  simp only [State.exceedsRating, List.any_eq_true, hkind]

theorem printFull_iff (s : State) : printFull s = true ↔ s.pre.enable = true ∧ 2 ≤ s.pre.slots.length := by
  simp only [printFull, Bool.and_eq_true, decide_eq_true_eq]
  rfl

/-- The checks of START-PLAN in order (R94). -/
theorem startRefusal_plan (s : State) : startRefusal .plan s =
    if s.active then some .busy
    else if s.hvc.dischLatch then some .notSafe
    else if s.rnc.plan == [] then some .noPlan
    else if s.lacksNets then some .noNets
    else if s.exceedsRating then some .rating
    else if printFull s then some .printBacklog
    else none := rfl

/-- Those of the other starts (R94). -/
theorem startRefusal_other {k : RunKind} (hk : k ≠ .plan) (s : State) : startRefusal k s =
    if s.active then some .busy
    else if s.hvc.dischLatch then some .notSafe
    else if printFull s then some .printBacklog
    else none := by
  cases k
  · exact absurd rfl hk
  · rfl
  · rfl

/-- A START-PLAN that fails a check changes nothing (R94). -/
theorem startPlan_refused {s : State} {c : RefusalCode} (h : s.quiet) (hc : startRefusal .plan s = some c) :
    exec .startPlan s = .next (s.refusedWith 0x0F#8 c) := by
  have htaken : startRefusal .plan s.taken = some c := hc
  have hdo : carryOut .startPlan s.taken = doStartPlan s.taken := rfl
  rw [doStartPlan, htaken] at hdo
  exact request_answered _ h _ hdo

/-- Settles O16: the first check that fails is the one `startRefusal_plan` comes to. -/
theorem startPlanChecksInOrder : Obligations.StartPlanChecksInOrder := by
  intro s h c1 c2 c3 c4 c5 c6
  have hplan : (s.rnc.plan == []) = true ↔ c3 := by simp [c3]
  have hnets := s.lacksNets_iff
  have hrating := s.exceedsRating_iff
  have hprint := printFull_iff s
  have hc := startRefusal_plan s
  refine ⟨fun h1 => ?busy, fun h1 h2 => ?notSafe, fun h1 h2 h3 => ?noPlan, fun h1 h2 h3 h4 => ?noNets,
    fun h1 h2 h3 h4 h5 => ?rating, fun h1 h2 h3 h4 h5 h6 => ?backlog⟩ <;> refine startPlan_refused h (hc.trans ?_)
  case busy => rw [if_pos h1]
  case notSafe => rw [if_neg h1, if_pos h2]
  case noPlan => rw [if_neg h1, if_neg h2, if_pos (hplan.mpr h3)]
  case noNets => rw [if_neg h1, if_neg h2, if_neg (mt hplan.mp h3), if_pos (hnets.mpr h4)]
  case rating =>
    rw [if_neg h1, if_neg h2, if_neg (mt hplan.mp h3), if_neg (mt hnets.mp h4), if_pos (hrating.mpr h5)]
  case backlog =>
    rw [if_neg h1, if_neg h2, if_neg (mt hplan.mp h3), if_neg (mt hnets.mp h4), if_neg (mt hrating.mp h5),
      if_pos (hprint.mpr h6)]

theorem startLearn_refused {s : State} {c : RefusalCode} (h : s.quiet) (hc : startRefusal .learn s = some c)
    (rlearn : Word32) : exec (.startLearn rlearn) s = .next (s.refusedWith 0x10#8 c) := by
  have htaken : startRefusal .learn s.taken = some c := hc
  have hdo : carryOut (.startLearn rlearn) s.taken = doStartLearn rlearn s.taken := rfl
  rw [doStartLearn, htaken] at hdo
  exact request_answered _ h _ hdo

theorem startZero_refused {s : State} {r : Word16} {c : RefusalCode} (h : s.quiet)
    (hc : zeroRefusal r.toNat s = some c) (lr : Word16) :
    exec (.startZero r lr) s = .next (s.refusedWith 0x11#8 c) := by
  have htaken : zeroRefusal r.toNat s.taken = some c := hc
  have hdo : carryOut (.startZero r lr) s.taken = doStartZero r lr s.taken := rfl
  rw [doStartZero, htaken] at hdo
  exact request_answered _ h _ hdo

/-- START-ZERO's own checks, once the general ones pass (R77). -/
theorem zeroRefusal_own {s : State} (h : startRefusal .zero s = none) (r : Nat) : zeroRefusal r s =
    if 4096 ≤ r then some .badArg
    else if !s.present r then some .absentPoint
    else if s.quar r != .none then some .state
    else none := by
  rw [zeroRefusal, h]
  rfl

/-- Settles O20: the general checks by `startRefusal_other`, START-ZERO's own by `zeroRefusal_own`. -/
theorem otherStartsAreRefusedInOrder : Obligations.OtherStartsAreRefusedInOrder := by
  intro s rlearn r lr h
  refine ⟨fun c hc => ?_, fun hzero => ?_⟩
  · have hgeneral : ∀ k, k ≠ .plan → startRefusal k s = some c := by
      intro k hk
      rw [startRefusal_other hk]
      rcases hc with ⟨rfl, ha⟩ | ⟨rfl, ha, hl⟩ | ⟨rfl, ha, hl, hp⟩
      · rw [if_pos ha]
      · rw [if_neg (by simp [ha]), if_pos hl]
      · rw [if_neg (by simp [ha]), if_neg (by simp [hl]), if_pos ((printFull_iff s).mpr hp)]
    refine ⟨startLearn_refused h (hgeneral .learn (by decide)) rlearn, startZero_refused h ?_ lr⟩
    rw [zeroRefusal, hgeneral .zero (by decide)]
  · have hown := zeroRefusal_own hzero r.toNat
    refine ⟨fun hbig => ?_, fun hlt hp => ?_, fun hlt hp hq => ?_⟩ <;> refine startZero_refused h (hown.trans ?_) lr
    · rw [if_pos hbig]
    · rw [if_neg (Nat.not_le.mpr hlt), if_pos (by simp [hp])]
    · rw [if_neg (Nat.not_le.mpr hlt), if_neg (by simp [hp]), if_pos (by simpa using hq)]

/-! ### PAUSE (R99) -/

theorem State.live_iff (s : State) :
    s.live = true ↔ (s.rnc.state = .running ∨ s.rnc.state = .held) ∧ s.rnc.verdict = .none := by
  simp [State.live]

/-- A live run reports its hold set as it is (R106). -/
theorem Rnc.shownHold_live {r : Rnc} (h : r.state = .running ∨ r.state = .held) : r.shownHold = r.hold := if_pos h

/-- Settles O21: PAUSE joins the hold set (`addHold_spec`), and the reply carries the set. -/
theorem pauseAddsItsReason : Obligations.PauseAddsItsReason := by
  intro s h live
  have hlive : s.taken.live = true ↔ live := s.live_iff
  have hdo : carryOut .pause s.taken = doPause s.taken := rfl
  refine ⟨fun hno => request_answered .pause h _ (hdo.trans (if_neg (mt hlive.mp hno))), fun hl => ?_⟩
  rw [doPause, if_pos (hlive.mpr hl)] at hdo
  obtain ⟨q, hq⟩ := addHold_spec .pause s.taken
  rw [hq] at hdo
  have ⟨_, _, hwire, _, _⟩ := h
  refine ⟨_, request_answers .pause h _ _ hdo h.1.1 hwire rfl id, rfl, rfl, rfl, rfl, rfl, rfl, rfl, rfl, rfl, rfl, rfl,
    h.1.1.1, ?_⟩
  simp [holdPayload, Rnc.shownHold_live (r := { s.rnc with hold := { s.rnc.hold with pause := true } }) hl.1, replyWire,
    HoldSet.put]

end Sys2Proof.Machine
end

section
/-! PROOFS. Starts and a group sample while a disable of the printer is pending in IDLE: O17, O18 and O19 are refuted. -/

namespace Sys2Proof.Machine

/-! As with `not_readbackQuarantinesWhatFailed`: no premise of the three statements keeps a disable from being held pending in
IDLE. A start that claims a summary slot, or a print-marked record, then wakes the print engine; without paper the disable takes
effect within the same command (R191, R182), every print mark is cleared, and a record that held no other mark leaves the log. So
the log is not what the statement says. (O17 excludes that state where it speaks of the slots, and not where it speaks of the
log.) -/

/-- No run is active; a record that is only print-marked is in the log; and the print engine is IDLE without paper, with a
disable pending and no slot occupied. -/
def readyDisablePending : State :=
  { State.reset with
    mxc := { Mxc.reset with cards := [(0, .present { ctype := .low, rating := 100, operate := 3#4, release := 0#4 })] }
    dlg := { Dlg.reset with recs := [onlyPrintMarked] }
    pre := { Pre.reset with state := .idle, enable := true, disPending := true, paper := false } }

/-! ### START-PLAN -/

/-- A WATCH step of P0000 and P0001. -/
def onePairWatch : WatchParams :=
  { range := .cr1, rgood := 5000, ropen := 100000, minBreak := 1, quiet := 30, maxTime := 300, pairs := [(0, 1)] }

def planDisablePending : State := { readyDisablePending with rnc := { Rnc.reset with plan := [.watch onePairWatch] } }

theorem planDisablePending_quiet : planDisablePending.quiet :=
  ⟨⟨⟨rfl, fun _ => Or.inl rfl, Or.inl rfl, nofun⟩, rfl⟩, rfl, rfl, rfl, rfl⟩

/-- The start leaves no record in the log. -/
theorem startPlan_disablePending {t : State} (h : exec .startPlan planDisablePending = .next t) : t.dlg.recs = [] := by
  have hrecs : (match exec .startPlan planDisablePending with
    | .next t => t.dlg.recs
    | _ => []) = [] := by decide
  rwa [h] at hrecs

/-- Refutes O17: with a disable of the printer pending in IDLE, the log is not as it was when the first unit's batch is asked
for (`startPlan_disablePending`). -/
theorem not_startPlanNumbersTheRun : ¬Obligations.StartPlanNumbersTheRun := by
  unfold Obligations.StartPlanNumbersTheRun
  intro h
  obtain ⟨t, ht, -, -, -, -, -, -, -, -, -, -, -, hfirst⟩ := h planDisablePending planDisablePending_quiet rfl (by decide)
  obtain ⟨hwatch, -⟩ := hfirst rfl rfl rfl rfl rfl (by decide)
  obtain ⟨⟨-, hdlg, -⟩, -⟩ := hwatch onePairWatch (0, 1) rfl rfl (by decide) (by decide) (by decide) (by decide) (by decide)
    (by decide)
  have hrecs := startPlan_disablePending ht
  rw [hdlg] at hrecs
  cases hrecs

/-! ### A sample of a short search -/

/-- The SHORTS stage of `pairJob`'s net, one CONDUCT sample short of a result. -/
def shortsJob : ContJob :=
  { pairJob with stage := .shorts, filter := { cls := some .conduct, len := 1, count := 1 }, phase := .searching }

/-- A short search of P0000 on an interval of one point, another interval left, and the printer as in `idleDisablePending`. -/
def searchDisablePending : State :=
  { idleDisablePending with
    mxc := .reset
    msu := { Msu.reset with
      contRange := .cr2, window := some { owner := .cte, la := some 0, lb := none, sampling := true } }
    cte := .cont shortsJob
    gsu := { state := .measuring, caller := .cte, driven := [0], cands := [64, 65], stack := [(1, 2)], cur := some (0, 1),
             found := 0 } }

/-- The SHORT leaves one record in the log: the old one has left. -/
theorem short_disablePending {t : State} (h : exec (.sample 0#16) searchDisablePending = .next t) :
    t.dlg.recs.length = 1 := by
  have hlen : (match exec (.sample 0#16) searchDisablePending with
    | .next t => t.dlg.recs.length
    | _ => 0) = 1 := by decide
  rwa [h] at hlen

/-- Refutes O18: with a disable of the printer pending in IDLE, the SHORT of a found point does not join the log as it was
(`short_disablePending`). -/
theorem not_startLearnEmptiesTheNets : ¬Obligations.StartLearnEmptiesTheNets := by
  unfold Obligations.StartLearnEmptiesTheNets
  intro h
  obtain ⟨-, hsample⟩ := h
  obtain ⟨-, -, hfound⟩ := hsample searchDisablePending 0#16 { owner := .cte, la := some 0, lb := none, sampling := true }
    shortsJob.filter 10000000 2 0 1 (1, 2) [] idleDisablePending_calm ⟨rfl, rfl, rfl, rfl, rfl, by decide⟩ rfl rfl rfl rfl rfl
    rfl rfl (Or.inl ⟨shortsJob, rfl, rfl, rfl, rfl, rfl⟩) rfl rfl rfl
  obtain ⟨-, -, hshort⟩ := hfound (Or.inl ⟨by decide, by decide⟩) (by decide)
  obtain ⟨t, rec, ht, -, -, -, -, -, hlog, -⟩ := hshort shortsJob rfl ⟨rfl, by decide⟩
  have hlen := short_disablePending ht
  rw [hlog] at hlen
  simp [searchDisablePending, idleDisablePending] at hlen

/-! ### START-ZERO -/

/-- The continuity engine of an earlier run holds back, its record in the entry place. -/
def zeroDisablePending : State :=
  { readyDisablePending with
    dlg := { Dlg.reset with
      recs := [onlyPrintMarked], entry := some { onlyPrintMarked with host := true, print := false }, heldBack := some .cte } }

theorem zeroDisablePending_quiet : zeroDisablePending.quiet :=
  ⟨⟨⟨rfl, fun _ => Or.inl rfl, Or.inl rfl, nofun⟩, rfl⟩, rfl, rfl, rfl, rfl⟩

/-- The start frees a slot, and the record in the entry place takes it. -/
theorem startZero_disablePending {t : State} (h : exec (.startZero 0#16 0#16) zeroDisablePending = .next t) :
    t.dlg.entry = none := by
  have hentry : (match exec (.startZero 0#16 0#16) zeroDisablePending with
    | .next t => t.dlg.entry
    | _ => none) = none := by decide
  rwa [h] at hentry

/-- Refutes O19: with a disable of the printer pending in IDLE, the log does not stay as it was while the permit is held back
(`startZero_disablePending`). -/
theorem not_startZeroSetsTheReferenceLead : ¬Obligations.StartZeroSetsTheReferenceLead := by
  unfold Obligations.StartZeroSetsTheReferenceLead
  intro h
  obtain ⟨hstart, -⟩ := h
  obtain ⟨t, ht, -, -, -, -, -, -, -, hheld⟩ := hstart zeroDisablePending 0#16 0#16 zeroDisablePending_quiet rfl (by decide)
    (by decide) (by decide) (by decide)
  obtain ⟨-, -, -, -, -, -, hdlg, -⟩ := hheld 1 (by decide) rfl rfl rfl
  have hentry := startZero_disablePending ht
  rw [hdlg] at hentry
  cases hentry

end Sys2Proof.Machine
end

section
/-! PROOFS. The permit, the end cause, and the creation of a record: O25, O24, O26, O23. -/

namespace Sys2Proof.Machine

/-! ### The permit (R97, R98) -/

theorem HoldSet.join_eq_empty {h g : HoldSet} : h.join g = .empty ↔ h = .empty ∧ g = .empty := by
  cases h; cases g
  simp only [HoldSet.join, HoldSet.empty, HoldSet.mk.injEq, Bool.or_eq_false_iff]
  tauto

/-- The boundary checks find nothing: a slot is free, and for an insulation unit the HVC is ready (R97). -/
theorem State.checks_eq_empty {s : State} {k : UnitKind} : s.checks k = .empty ↔
    s.dlg.entry = none ∧ s.dlg.recs.length < 256 ∧
    (k = .insulation → s.hvc.tripLatch = false ∧ s.hvc.guardClosed = true ∧ s.hvc.linkExpired = false) := by
  cases k <;> simp [State.checks, HoldSet.empty, and_assoc]
  tauto

/-- What the boundary checks find joins the hold set, as one reason after another (R97). -/
theorem HoldSet.join_checks (k : UnitKind) (s : State) : s.rnc.hold.join (s.checks k) =
    (((s.rnc.hold.putIf (s.checks k).logFull .logFull).putIf (s.checks k).tripLatched .tripLatched).putIf
      (s.checks k).guard .guard).putIf (s.checks k).linkLost .linkLost := by
  have hpause : (s.checks k).pause = false := rfl
  have hoperator : (s.checks k).operator = false := rfl
  cases hf : (s.checks k).logFull <;> cases ht : (s.checks k).tripLatched <;> cases hg : (s.checks k).guard <;>
    cases hl : (s.checks k).linkLost <;>
    simp [HoldSet.join, HoldSet.putIf, HoldSet.put, hf, ht, hg, hl, hpause, hoperator]

/-- With no slot reserved a slot is free, and the entry place empty, unless LOG_FULL is found (R97, R174). -/
theorem State.checks_logFull {s : State} (k : UnitKind) (h : s.dlg.reserved = false) :
    (s.dlg.entry.isSome || decide (s.dlg.freeSlots = 0)) = (s.checks k).logFull := by
  have hfree : s.dlg.freeSlots = 0 ↔ 256 ≤ s.dlg.recs.length := by
    simp [Dlg.freeSlots, Config.logSlots, h, Nat.sub_eq_zero_iff_le]
  simp [State.checks, hfree]

/-- The boundary checks add what they find, and change nothing else but the transmit queue (R97). -/
theorem boundaryChecks_spec {s : State} (k : UnitKind) (h : s.dlg.reserved = false) :
    ∃ q, boundaryChecks k s = s.holding (s.rnc.hold.join (s.checks k)) q := by
  have hfull := State.checks_logFull k h
  obtain ⟨q1, h1⟩ := addHold_if (s.checks k).logFull .logFull s.rnc.hold s.flk.notices s
  obtain ⟨q2, h2⟩ := addHold_if (s.checks k).tripLatched .tripLatched
    (s.rnc.hold.putIf (s.checks k).logFull .logFull) q1 s
  obtain ⟨q3, h3⟩ := addHold_if (s.checks k).guard .guard
    ((s.rnc.hold.putIf (s.checks k).logFull .logFull).putIf (s.checks k).tripLatched .tripLatched) q2 s
  obtain ⟨q4, h4⟩ := addHold_if (s.checks k).linkLost .linkLost
    (((s.rnc.hold.putIf (s.checks k).logFull .logFull).putIf (s.checks k).tripLatched .tripLatched).putIf
      (s.checks k).guard .guard) q3 s
  change (if (s.checks k).logFull then addHold .logFull s else s) = _ at h1
  have hhvc : ∀ h q, (s.holding h q).hvc = s.hvc := fun _ _ => rfl
  rw [HoldSet.join_checks]
  cases k with
  | low =>
    refine ⟨q1, ?_⟩
    simp only [boundaryChecks, hfull, h1, if_true]
    rfl
  | insulation =>
    have hguard : ∀ t u : State, (if s.hvc.guardClosed then t else u) = if (s.checks .insulation).guard then u else t := by
      intro t u
      cases hg : s.hvc.guardClosed <;> simp [State.checks, hg]
    change (if s.hvc.tripLatch then addHold .tripLatched _ else _) = _ at h2
    change (if s.hvc.linkExpired then addHold .linkLost _ else _) = _ at h4
    exact ⟨q4, by simp only [boundaryChecks, hfull, h1, reduceCtorEq, if_false, hhvc, h2, hguard, h3, h4]⟩

/-- Where they find nothing they change nothing. -/
theorem boundaryChecks_clear {s : State} {k : UnitKind} (h : s.dlg.reserved = false) (hc : s.checks k = .empty) :
    boundaryChecks k s = s := by
  have hfull : (s.dlg.entry.isSome || decide (s.dlg.freeSlots = 0)) = false :=
    (State.checks_logFull k h).trans (by rw [hc]; rfl)
  obtain ⟨-, -, hready⟩ := State.checks_eq_empty.mp hc
  unfold boundaryChecks
  rw [hfull]
  cases k with
  | low => rfl
  | insulation =>
    obtain ⟨htrip, hguard, hlink⟩ := hready rfl
    simp [htrip, hguard, hlink]

/-- A permit that finds no reason is granted: a slot is reserved and the unit noted, and nothing else changes (R97). -/
theorem permit_granted {s : State} {k : UnitKind} (hw : s.atWork) (h : s.rnc.hold.join (s.checks k) = .empty) :
    permit k s = (.grant, { s with dlg := { s.dlg with reserved := true }, rnc := { s.rnc with unit := some k } }) := by
  obtain ⟨hhold, hchecks⟩ := HoldSet.join_eq_empty.mp h
  have hclear : boundaryChecks k s.betweenUnits = s.betweenUnits := boundaryChecks_clear rfl hchecks
  rw [permit_checks k hw, hclear]
  exact if_pos (by simp [State.betweenUnits, hhold, HoldSet.isEmpty])

/-- One that finds a reason leaves the run HELD, and the engine waits (R97, R98). -/
theorem permit_parked {s : State} {k : UnitKind} (hw : s.atWork) (h : s.rnc.hold.join (s.checks k) ≠ .empty) :
    ∃ q, permit k s = (.park, { s with
      dlg := { s.dlg with reserved := false }
      rnc := { s.rnc with unit := none, hold := s.rnc.hold.join (s.checks k), state := .held, waits := true }
      flk := { s.flk with notices := q } }) := by
  obtain ⟨q, hq⟩ := boundaryChecks_spec (s := s.betweenUnits) k rfl
  rw [permit_checks k hw, hq]
  obtain ⟨q', hq'⟩ := raise_spec .run _ _
  have hne : ¬(s.rnc.hold.join (s.checks k)).isEmpty = true := by rwa [HoldSet.isEmpty, beq_iff_eq]
  exact ⟨q', (if_neg hne).trans (congrArg (Prod.mk _) hq')⟩

/-- A run that is not live answers STOP (R97). -/
theorem permit_stopped {s : State} (k : UnitKind) (h : s.live = false) : permit k s =
    (.stop, { s with dlg := { s.dlg with reserved := false }, rnc := { s.rnc with unit := none } }) := by
  have hlive : (!s.betweenUnits.live) = true := congrArg not h
  exact if_pos hlive

/-- Settles O25: a permit in RUNNING (`permit_granted`, `permit_parked`), in HELD, and of a run that is not live. -/
theorem permitFollowsTheBoundaryChecks : Obligations.PermitFollowsTheBoundaryChecks := by
  intro k s h
  refine ⟨fun t ht => ?_, fun hs hv => ⟨permit_granted ⟨hs, hv⟩, permit_parked ⟨hs, hv⟩⟩,
    fun hs hv => permit_held k hs hv, permit_stopped k⟩
  have hlive : s.live = true := by
    by_contra hno
    rw [permit_stopped k (by simpa using hno)] at ht
    cases ht
  obtain ⟨hs, hv⟩ := s.live_iff.mp hlive
  have hrun : s.rnc.state = .running := by
    refine hs.resolve_right fun hheld => ?_
    rw [permit_held k hheld hv] at ht
    cases ht
  have hnone : h = .empty := by
    by_contra hne
    obtain ⟨q, hq⟩ := permit_parked ⟨hrun, hv⟩ hne
    rw [hq] at ht
    cases ht
  obtain ⟨hhold, hchecks⟩ := HoldSet.join_eq_empty.mp hnone
  exact ⟨hrun, hv, hhold, State.checks_eq_empty.mp hchecks⟩

/-! ### The end cause (R101, R104) -/

/-- The owner's window and its requests for one gone (R29). -/
def State.closedFor (o : Owner) (s : State) : State :=
  { s with
    msu.waiting := s.msu.waiting.filter fun w => w.owner != o
    msu.window := match s.msu.window with
      | some w => if w.owner = o then none else some w
      | none => none }

/-- A release withdraws the wait for the bus too, if the owner's is the first request that waits (R29, R32). -/
theorem releaseWindow_cases (o : Owner) (s : State) :
    (s.msu.busWait = true ∧ releaseWindow o s = (withdraw .msu { s with msu.busWait := false }).closedFor o) ∨
    releaseWindow o s = s.closedFor o := by
  unfold releaseWindow
  extract_lets first _ s1
  by_cases hc : (s.msu.busWait && first) = true
  · exact .inl ⟨(Bool.and_eq_true_iff.mp hc).1, congrArg (State.closedFor o) (if_pos hc : s1 = _)⟩
  · exact .inr (congrArg (State.closedFor o) (if_neg hc : s1 = _))

/-- Releasing a window changes the measurement unit, and of the HVC its waiters: they stay when no window waits for the bus
(R29). -/
theorem releaseWindow_eq (o : Owner) (s : State) : ∃ m ws,
    releaseWindow o s = { s with msu := m, hvc := { s.hvc with waiters := ws } } ∧
    (s.msu.busWait = false → m.busWait = false ∧ ws = s.hvc.waiters) := by
  obtain ⟨hb, h⟩ | h := releaseWindow_cases o s
  · exact ⟨_, s.hvc.waiters.filter fun x => x != .msu, h, fun hno => by simp [hb] at hno⟩
  · exact ⟨_, s.hvc.waiters, h, fun hb => ⟨hb, rfl⟩⟩

/-- The engine stopped (R101, R173): with what is left of the windows `m` and the waiters `ws`. -/
def State.engineStopped (m : Msu) (ws : List Waiter) (s : State) : State :=
  { s with
    msu := m
    hvc := { s.hvc with waitEnable := none, waiters := ws }
    cte := .none
    ise := none
    wte := none
    todo := []
    dlg := { s.dlg with reserved := false }
    rnc := { s.rnc with unit := none, waits := false, struck := false } }

theorem stopEngine_eq (s : State) : ∃ m ws, stopEngine s = s.engineStopped m ws ∧
    (s.msu.busWait = false → ws = s.hvc.waiters) := by
  obtain ⟨m1, ws1, h1, hw1⟩ := releaseWindow_eq .cte s
  obtain ⟨m2, ws2, h2, hw2⟩ := releaseWindow_eq .wte { s with msu := m1, hvc := { s.hvc with waiters := ws1 } }
  refine ⟨{ m2 with reading := false }, ws2, by rw [stopEngine, h1, h2]; rfl, fun hb => ?_⟩
  obtain ⟨hb1, rfl⟩ := hw1 hb
  exact (hw2 hb1).2

/-- The abort leaves the held batches that were made for no run (R21). -/
theorem abortBatches_eq (s : State) : ∃ b ws, abortBatches s = { s with
      mxc := { s.mxc with held := s.mxc.held.filter fun r => !r.run, batch := b }
      hvc := { s.hvc with waiters := ws } } ∧
    (s.mxc.batch = none → b = none ∧ ws = s.hvc.waiters) := by
  cases hb : s.mxc.batch with
  | none => exact ⟨none, s.hvc.waiters, by simp only [abortBatches, hb], fun _ => ⟨rfl, rfl⟩⟩
  | some b =>
    cases hr : b.req.run
    · exact ⟨some b, s.hvc.waiters, by simp only [abortBatches, hb, hr]; rw [← hb]; rfl, nofun⟩
    · by_cases hp : b.phase = .busWait
      · exact ⟨_, _, by simp only [abortBatches, hb, hr, hp]; rfl, nofun⟩
      · exact ⟨some { b with aborted := true }, s.hvc.waiters, by simp [abortBatches, hb, hr, hp], nofun⟩

/-- A hold set that is not empty is emptied, with a notice (R101). -/
theorem holdEmptied_eq (s : State) :
    ∃ q, (if s.rnc.hold.isEmpty then s else raiseRun { s with rnc.hold := .empty }) =
      { s with rnc := { s.rnc with hold := .empty }, flk := { s.flk with notices := q } } := by
  by_cases he : s.rnc.hold.isEmpty = true
  · have hhold : s.rnc.hold = .empty := by rwa [HoldSet.isEmpty, beq_iff_eq] at he
    exact ⟨s.flk.notices, (if_pos he).trans (by rw [← hhold])⟩
  · obtain ⟨q, hq⟩ := raise_spec .run (nRunPayload { s with rnc.hold := .empty }) { s with rnc.hold := .empty }
    exact ⟨q, (if_neg he).trans hq⟩

/-- A HELD run returns to RUNNING, with a notice (R98). -/
theorem backRunning_eq {s : State} (h : s.rnc.state = .running ∨ s.rnc.state = .held) :
    ∃ q, (if s.rnc.state = .held then raiseRun { s with rnc.state := .running } else s) =
      { s with rnc := { s.rnc with state := .running }, flk := { s.flk with notices := q } } := by
  obtain hrun | hheld := h
  · exact ⟨s.flk.notices, (if_neg (by simp [hrun])).trans (by rw [← hrun])⟩
  · obtain ⟨q, hq⟩ := raise_spec .run (nRunPayload { s with rnc.state := .running }) { s with rnc.state := .running }
    exact ⟨q, (if_pos hheld).trans hq⟩

/-- A run that has taken an end cause: what is left of the windows `m`, the waiters `ws`, the batch in flight `b` and the
notices `q` (R101, R21). -/
def State.closingOut (v : Verdict) (why : EndReason) (m : Msu) (ws : List Waiter) (b : Option Batch) (q : List Notice)
    (s : State) : State :=
  { s with
    msu := m
    hvc := { s.hvc with waitEnable := none, waiters := ws }
    mxc := { s.mxc with held := s.mxc.held.filter fun r => !r.run, batch := b }
    gsu := .idle
    cte := .none
    ise := none
    wte := none
    todo := []
    dlg := { s.dlg with reserved := false }
    rnc := { s.rnc with
      verdict := v, reason := why, hold := .empty, state := .running, unit := none, waits := false, struck := false }
    flk := { s.flk with notices := q } }

/-- What a closing-out run does with the answer of the bus (R104). -/
def closeWith : BusAnswer × State → State
  | (.safe, t) => enterEnding t
  | (.fault, t) => enterEnding (overrideFault t)
  | (.wait, t) => t

/-- The end cause of a live run closes it out and asks for a safe bus (R101, R104). -/
theorem endCause_closes {s : State} (v : Verdict) (why : EndReason) (h : s.live = true) : ∃ m ws b q,
    endCause v why s = closeWith (disable .rnc (s.closingOut v why m ws b q)) ∧
    (s.msu.busWait = false → s.mxc.batch = none → ws = s.hvc.waiters) ∧ (s.mxc.batch = none → b = none) := by
  obtain ⟨q2, h2⟩ := holdEmptied_eq { s with rnc.verdict := v, rnc.reason := why }
  obtain ⟨q3, h3⟩ := backRunning_eq (s := { s with
    rnc := { s.rnc with verdict := v, reason := why, hold := .empty }, flk := { s.flk with notices := q2 } })
    (s.live_iff.mp h).1
  obtain ⟨m, ws1, h4, hws1⟩ := stopEngine_eq { s with
    rnc := { s.rnc with verdict := v, reason := why, hold := .empty, state := .running }
    flk := { s.flk with notices := q3 }, gsu := .idle }
  obtain ⟨b, ws, h5, hws⟩ := abortBatches_eq (State.engineStopped m ws1 { s with
    rnc := { s.rnc with verdict := v, reason := why, hold := .empty, state := .running }
    flk := { s.flk with notices := q3 }, gsu := .idle })
  refine ⟨m, ws, b, q3, ?_, fun hbus hbatch => ((hws hbatch).2.trans (hws1 hbus)), fun hbatch => (hws hbatch).1⟩
  have hend : endCause v why s = closeWith (disable .rnc (abortBatches (stopEngine { s with
    rnc := { s.rnc with verdict := v, reason := why, hold := .empty, state := .running }
    flk := { s.flk with notices := q3 }, gsu := .idle }))) := by
    unfold endCause
    rw [if_neg (by simp [h])]
    dsimp only at h2 h3 ⊢
    rw [h2, h3]
    rfl
  rw [hend, h4, h5]
  rfl

/-- The bus reads above 30 V in OFF, the discharge-fault latch set: R104's case. -/
def State.busFaulted (s : State) : Prop := s.hvc.state = .off ∧ 30000 < s.hvc.bus ∧ s.hvc.dischLatch = true

/-- The bus is safe and the source off (R137). -/
def State.busSafe (s : State) : Prop := s.hvc.state = .off ∧ s.hvc.bus ≤ 30000

theorem disable_safe {s : State} (w : Waiter) (h : s.busSafe) : disable w s = (.safe, s) := by
  obtain ⟨hoff, hbus⟩ := h
  simp [disable, hoff, Config.safeBus, hbus]

theorem disable_faults {s : State} (w : Waiter) (h : s.busFaulted) : disable w s = (.fault, s) := by
  obtain ⟨hoff, hbus, hlatch⟩ := h
  simp [disable, hoff, Config.safeBus, Nat.not_le_of_lt hbus, hlatch]

/-- Else the requester waits for the discharge (R135, R137). -/
theorem disable_waits {s : State} (w : Waiter) (hise : s.ise = none) (hsafe : ¬s.busSafe) (hfault : ¬s.busFaulted) :
    ∃ hv m, disable w s = (.wait, { s with hvc := hv, msu := m }) ∧ hv.state = .discharge ∧
      hv.waiters = s.hvc.waiters ++ [w] ∧ hv.waitEnable = s.hvc.waitEnable ∧
      (s.hvc.sourceOn = true → hv.timer = true ∧ hv.setpoint = 0) := by
  have hremoved : removeHv s = { enterDischarge s with msu := { s.msu with reading := false } } := by
    simp only [removeHv_spec, enterDischarge_spec, hise, Option.map_none]
  cases hs : s.hvc.state with
  | off =>
    have hbus : ¬s.hvc.bus ≤ Config.safeBus := fun hb => hsafe ⟨hs, hb⟩
    have hlatch : ¬s.hvc.dischLatch = true := fun hl => hfault ⟨hs, Nat.lt_of_not_le hbus, hl⟩
    exact ⟨{ (enterDischarge s).hvc with waiters := s.hvc.waiters ++ [w] }, s.msu,
      by simp only [disable, hs, if_neg hbus, if_neg hlatch]; rfl, rfl, rfl, rfl, fun _ => ⟨rfl, rfl⟩⟩
  | discharge =>
    exact ⟨{ s.hvc with waiters := s.hvc.waiters ++ [w] }, s.msu, by simp only [disable, hs], hs, rfl, rfl,
      fun hon => by simp [Hvc.sourceOn, hs] at hon⟩
  | ramp | dwell =>
    exact ⟨{ (enterDischarge s).hvc with waiters := s.hvc.waiters ++ [w] }, { s.msu with reading := false },
      by simp only [disable, hs, hremoved]; rfl, rfl, rfl, rfl, fun _ => ⟨rfl, rfl⟩⟩

/-- A run in ENDING, its teardown asked for (R104). -/
def State.ended (v : Verdict) (why : EndReason) (m : Msu) (ws : List Waiter) (b : Option Batch) (q : List Notice)
    (s : State) : State :=
  { s.closingOut v why m ws b q with
    mxc := { s.mxc with
      held := (s.mxc.held.filter fun r => !r.run) ++ [{ a := [], b := [], run := false, who := .teardown }]
      batch := b }
    rnc := { (s.closingOut v why m ws b q).rnc with state := .ending } }

theorem enterEnding_closingOut (v : Verdict) (why : EndReason) (m : Msu) (ws : List Waiter) (b : Option Batch)
    (q : List Notice) (s : State) : ∃ q', enterEnding (s.closingOut v why m ws b q) = s.ended v why m ws b q' := by
  obtain ⟨q', hq⟩ := enterEnding_eq (s.closingOut v why m ws b q)
  exact ⟨q', hq⟩

/-- With the bus safe the run enters ENDING at once (R104). -/
theorem endCause_safe {s : State} (v : Verdict) (why : EndReason) (h : s.live = true) (hsafe : s.busSafe) :
    ∃ m ws b q, endCause v why s = s.ended v why m ws b q ∧ (s.mxc.batch = none → b = none) := by
  obtain ⟨m, ws, b, q, heq, -, hbatch⟩ := endCause_closes v why h
  obtain ⟨q', hq⟩ := enterEnding_closingOut v why m ws b q s
  have hdis : disable .rnc (s.closingOut v why m ws b q) = (.safe, s.closingOut v why m ws b q) := disable_safe _ hsafe
  exact ⟨m, ws, b, q', by rw [heq, hdis]; exact hq, hbatch⟩

/-- In R104's case too, its verdict overridden. -/
theorem endCause_faulted {s : State} (v : Verdict) (why : EndReason) (h : s.live = true) (hfault : s.busFaulted) :
    ∃ m ws b q, endCause v why s = s.ended .aborted .dischargeFault m ws b q := by
  obtain ⟨m, ws, b, q, heq, -, -⟩ := endCause_closes v why h
  obtain ⟨q', hq⟩ := enterEnding_closingOut .aborted .dischargeFault m ws b q s
  have hdis : disable .rnc (s.closingOut v why m ws b q) = (.fault, s.closingOut v why m ws b q) :=
    disable_faults _ hfault
  exact ⟨m, ws, b, q', by rw [heq, hdis]; exact hq⟩

/-- Else it waits for the discharge, closing out (R104). -/
theorem endCause_waits {s : State} (v : Verdict) (why : EndReason) (h : s.live = true) (hsafe : ¬s.busSafe)
    (hfault : ¬s.busFaulted) : ∃ m ws b q hv, endCause v why s = { s.closingOut v why m ws b q with hvc := hv } ∧
      hv.state = .discharge ∧ hv.waiters = ws ++ [.rnc] ∧ hv.waitEnable = none ∧
      (s.hvc.sourceOn = true → hv.timer = true ∧ hv.setpoint = 0) ∧
      (s.msu.busWait = false → s.mxc.batch = none → ws = s.hvc.waiters) ∧ (s.mxc.batch = none → b = none) := by
  obtain ⟨m, ws, b, q, heq, hws, hbatch⟩ := endCause_closes v why h
  obtain ⟨hv, m', hdis, hstate, hwaiters, henable, hon⟩ :=
    disable_waits (s := s.closingOut v why m ws b q) .rnc rfl hsafe hfault
  exact ⟨m', ws, b, q, hv, by rw [heq, hdis]; rfl, hstate, hwaiters, henable, hon, hws, hbatch⟩

/-- Settles O24: an end cause on a safe bus, in R104's case, and while the bus must still discharge. -/
theorem endCauseIsTakenOnce : Obligations.EndCauseIsTakenOnce := by
  intro v why s safe faulted
  refine ⟨fun hno => if_pos (congrArg not hno : (!s.live) = true), fun hlive hv => ?_⟩
  by_cases hs : safe
  · have hnf : ¬faulted := fun hf => absurd hs.2 (Nat.not_le_of_lt hf.2.1)
    obtain ⟨m, ws, b, q, ht, -⟩ := endCause_safe v why hlive hs
    rw [ht]
    exact ⟨fun hf => absurd hf hnf, fun _ => ⟨rfl, rfl⟩, fun _ => ⟨rfl, hs.1, rfl⟩, fun hns => absurd hs hns,
      rfl, rfl, rfl, rfl, rfl, rfl, by simp [State.ended, State.closingOut, Hvc.sourceOn, hs.1], rfl, rfl,
      rfl, rfl, rfl, rfl, rfl⟩
  · by_cases hf : faulted
    · obtain ⟨m, ws, b, q, ht⟩ := endCause_faulted v why hlive hf
      rw [ht]
      exact ⟨fun _ => ⟨rfl, rfl⟩, fun hnf => absurd hf hnf, fun _ => ⟨rfl, hf.1, rfl⟩, fun _ hnf => absurd hf hnf,
        rfl, rfl, rfl, rfl, rfl, rfl, by simp [State.ended, State.closingOut, Hvc.sourceOn, hf.1], rfl, rfl,
        rfl, rfl, rfl, rfl, rfl⟩
    · obtain ⟨m, ws, b, q, hv', ht, hstate, hwaiters, henable, -⟩ := endCause_waits v why hlive hs hf
      rw [ht]
      exact ⟨fun h => absurd h hf, fun _ => ⟨rfl, rfl⟩, fun h => (h.elim hs hf).elim,
        fun _ _ => ⟨rfl, hstate, by simp [hwaiters], rfl⟩,
        rfl, rfl, rfl, rfl, rfl, rfl, by simp [Hvc.sourceOn, hstate], henable,
        by simp [State.live, State.closingOut, hv], rfl, rfl, rfl, rfl, rfl⟩

/-! ### ABORT (R101) -/

/-- ABORT in a live run answers with the state after the end cause, when that leaves `t`. -/
theorem abort_answered {s t : State} (h : s.quiet) (hlive : s.live = true)
    (ht : endCause .aborted .hostAbort s.taken = t) (htodo : t.todo = []) (hpre : t.pre = s.pre)
    (hdlg : t.dlg.recs = s.dlg.recs ∧ t.dlg.entry = s.dlg.entry ∧ t.dlg.streaming = s.dlg.streaming)
    (hstruck : t.rnc.struck = false) (hwire : t.flk.wire = s.flk.wire) (hbusy : t.flk.busy = true)
    (hbatch : s.mxc.batch = none) : exec .abort s = .next { t with flk := { t.flk with
      reply := none, wire := replyWire (replyFrame 0x14#8 (le8 t.rnc.state.code)) } } := by
  have hactive : s.taken.active = true := by
    obtain ⟨hs | hs, -⟩ := s.live_iff.mp hlive <;> simp [State.active, hs]
  have hdo : carryOut .abort s.taken = place (replyFrame 0x14#8 (le8 t.rnc.state.code)) t := by
    rw [← ht]
    exact if_pos hactive
  have ⟨hcalm, _, hw, _, _⟩ := h
  exact request_answers .abort h _ t hdo
    (settled_of_same hcalm.1 (htodo.trans hcalm.1.1.symm) hpre hdlg hstruck) (hwire.trans hw) hbusy fun _ => hbatch

/-- Settles O23: ABORT refused, without effect, on a safe bus (`endCause_safe`), and with the source on (`endCause_waits`). -/
theorem abortEndsTheRun : Obligations.AbortEndsTheRun := by
  intro s h
  refine ⟨fun hidle => ?idle, fun hactive hdead => ?closing, fun hlive hoff hbus hbatch => ?safe,
    fun hlive hon hbatch hwait => ?energised⟩
  case idle =>
    have hno : ¬s.taken.active = true := by rw [show s.taken.active = s.active from rfl, hidle]; decide
    exact request_answered .abort h _ (if_neg hno)
  case closing =>
    have hend : endCause .aborted .hostAbort s.taken = s.taken := if_pos (congrArg not hdead : (!s.live) = true)
    have hdo : carryOut .abort s.taken = doAbort s.taken := rfl
    rw [doAbort, hend] at hdo
    exact request_answered .abort h _ (hdo.trans (if_pos hactive))
  case safe =>
    obtain ⟨m, ws, b, q, ht, -⟩ := endCause_safe (s := s.taken) .aborted .hostAbort hlive ⟨hoff, hbus⟩
    exact ⟨_, abort_answered h hlive ht rfl rfl ⟨rfl, rfl, rfl⟩ rfl rfl rfl hbatch, rfl, rfl, rfl, rfl, rfl, rfl, rfl,
      rfl, rfl, rfl, rfl, rfl, rfl, hoff, rfl, rfl⟩
  case energised =>
    have hnot : s.hvc.state ≠ .off := fun hoff => by simp [Hvc.sourceOn, hoff] at hon
    obtain ⟨m, ws, b, q, hv, ht, hstate, hwaiters, -, hsource, hws, -⟩ := endCause_waits (s := s.taken) .aborted
      .hostAbort hlive (fun hsafe => hnot hsafe.1) fun hfault => hnot hfault.1
    obtain ⟨htimer, hzero⟩ := hsource hon
    rw [hws hwait hbatch] at hwaiters
    exact ⟨_, abort_answered h hlive ht rfl rfl ⟨rfl, rfl, rfl⟩ rfl rfl rfl hbatch, rfl, rfl, hstate, htimer, hzero,
      hwaiters, rfl, rfl⟩

/-! ### A created record (R100, R171, R173) -/

theorem State.atWork.live {s : State} (h : s.atWork) : s.live = true := s.live_iff.mpr ⟨.inl h.1, h.2⟩

theorem countRec_same (k : DefectKind) (s : State) :
    (countRec k s).rnc.counts.get k.idx = s.rnc.counts.get k.idx + 1 := by
  simp [countRec, Vector.get_eq_getElem]

theorem countRec_other {k : DefectKind} {i : Fin 11} (h : i ≠ k.idx) (s : State) :
    (countRec k s).rnc.counts.get i = s.rnc.counts.get i := by
  have hne : k.idx.val ≠ i.val := fun heq => h (Fin.ext heq.symm)
  simp [countRec, Vector.get_eq_getElem, hne]

/-- No slot of the log is free (R172, R173). -/
theorem Dlg.freeSlots_pos {d : Dlg} (h : d.reserved = false) : 0 < d.freeSlots ↔ d.recs.length < 256 := by
  simp [Dlg.freeSlots, Config.logSlots, h]

/-- A record is counted, and placed in the reserved slot, in a free one, or in the entry place (R100, R173). -/
theorem putRecord_eq (d : Draft) {s : State} (he : s.dlg.entry = none) :
    ∃ g, putRecord d s = { countRec d.kind s with dlg := g } ∧
      (s.dlg.reserved = true ∨ s.dlg.recs.length < 256 →
        g.recs = s.dlg.recs ++ [makeRec d (s.rnc.total + 1) s] ∧ g.entry = none ∧ g.reserved = false) ∧
      (s.dlg.reserved = false → 256 ≤ s.dlg.recs.length →
        g.recs = s.dlg.recs ∧ g.entry = some (makeRec d (s.rnc.total + 1) s)) := by
  have hdlg : (countRec d.kind s).dlg = s.dlg := rfl
  obtain ⟨hres, heq⟩ | ⟨hres, -, hfree, heq⟩ | ⟨hres, hno, heq⟩ :=
    enterLog_spec (makeRec d (s.rnc.total + 1) s) (countRec d.kind s) <;> rw [hdlg] at *
  · exact ⟨_, heq, fun _ => ⟨rfl, he, rfl⟩, fun hnot => by simp [hnot] at hres⟩
  · have hlt := (Dlg.freeSlots_pos hres).mp hfree
    exact ⟨_, heq, fun _ => ⟨rfl, he, hres⟩, fun _ hge => absurd hlt (Nat.not_lt.mpr hge)⟩
  · have hfull : ¬s.dlg.recs.length < 256 := by
      rw [← Dlg.freeSlots_pos hres]
      exact Nat.not_lt.mpr (Nat.le_of_eq (hno.resolve_left (absurd he)))
    exact ⟨_, heq, fun hor => (hor.elim (fun hr => by simp [hr] at hres) hfull).elim, fun _ _ => ⟨rfl, rfl⟩⟩

theorem putRecord_rnc (d : Draft) (s : State) : (putRecord d s).rnc = (countRec d.kind s).rnc := by
  obtain ⟨-, heq⟩ | ⟨-, -, -, heq⟩ | ⟨-, -, heq⟩ := enterLog_spec (makeRec d (s.rnc.total + 1) s) (countRec d.kind s) <;>
    exact (congrArg State.rnc heq :)

/-- A record made at work either ends the run, or is logged, or adds its reason to the hold set (R100). -/
theorem createRecord_cases (d : Draft) {s : State} (hw : s.atWork) :
    ((s.rnc.total + 1 = s.rnc.limit ∨ actionOf d.kind s = .abort) ∧ createRecord d s =
      endCause (if actionOf d.kind s = .abort then .aborted else .fail)
        (if actionOf d.kind s = .abort then .defectAbort else .limit) (putRecord d s)) ∨
    (s.rnc.total + 1 ≠ s.rnc.limit ∧ actionOf d.kind s = .log ∧ createRecord d s = putRecord d s) ∨
    (s.rnc.total + 1 ≠ s.rnc.limit ∧ actionOf d.kind s = .hold ∧
      createRecord d s = addHold (if d.kind = .trip then .tripLatched else .operator) (putRecord d s)) := by
  have hrecordable : ¬(!s.recordable) = true := by simp [State.recordable, hw.1, hw.2]
  have hfull : (putRecord d s).rnc.total = (putRecord d s).rnc.limit ↔ s.rnc.total + 1 = s.rnc.limit := by
    rw [putRecord_rnc]
    rfl
  unfold createRecord
  rw [if_neg hrecordable]
  by_cases hf : s.rnc.total + 1 = s.rnc.limit
  · refine .inl ⟨.inl hf, ?_⟩
    rw [if_pos (hfull.mpr hf)]
    split <;> rfl
  · rw [if_neg (mt hfull.mp hf)]
    cases ha : actionOf d.kind s with
    | log => exact .inr (.inl ⟨hf, rfl, rfl⟩)
    | hold => exact .inr (.inr ⟨hf, rfl, rfl⟩)
    | abort => exact .inl ⟨.inr rfl, rfl⟩

/-- The draft's record leaves the run at work as it was. -/
theorem putRecord_atWork (d : Draft) {s : State} (hw : s.atWork) : (putRecord d s).atWork := by
  unfold State.atWork
  rw [putRecord_rnc]
  exact hw

theorem ite_verdict_ne_none (c : Prop) [Decidable c] : (if c then Verdict.aborted else .fail) ≠ .none := by
  split <;> decide

/-- What follows a record's creation changes neither the figures nor the log, but that a reservation can end. -/
theorem createRecord_figures (d : Draft) {s : State} (hw : s.atWork) :
    (createRecord d s).rnc.total = (putRecord d s).rnc.total ∧
    (createRecord d s).rnc.counts = (putRecord d s).rnc.counts ∧
    ((createRecord d s).dlg = (putRecord d s).dlg ∨
      (createRecord d s).dlg = { (putRecord d s).dlg with reserved := false }) := by
  obtain ⟨-, hend⟩ | ⟨-, -, heq⟩ | ⟨-, -, heq⟩ := createRecord_cases d hw
  · obtain ⟨-, -, -, -, -, -, -, -, -, -, -, -, -, hcounts, htotal, -, -, hdlg⟩ :=
      (endCauseIsTakenOnce _ (if actionOf d.kind s = .abort then .defectAbort else .limit) _).2
        (putRecord_atWork d hw).live (ite_verdict_ne_none (actionOf d.kind s = .abort))
    rw [hend]
    exact ⟨htotal, hcounts, .inr hdlg⟩
  · rw [heq]
    exact ⟨rfl, rfl, .inl rfl⟩
  · obtain ⟨q, hq⟩ := addHold_spec (if d.kind = .trip then .tripLatched else .operator) (putRecord d s)
    rw [heq, hq]
    exact ⟨rfl, rfl, .inl rfl⟩

/-- Settles O26: the record is counted and placed (`putRecord_eq`), and `createRecord_cases` says what follows. -/
theorem createdRecordIsCountedAndActsOnce : Obligations.CreatedRecordIsCountedAndActsOnce := by
  intro d s hrun hverd he t act full faulted r
  have hw : s.atWork := ⟨hrun, hverd⟩
  have hr : makeRec d (s.rnc.total + 1) s = r := by
    cases hb : d.b <;> simp only [makeRec, r, hb] <;> rfl
  obtain ⟨g, hput, hplaced, hstands⟩ := putRecord_eq d he
  rw [hr] at hplaced hstands
  obtain ⟨htotal, hcounts, hdlg⟩ := createRecord_figures d hw
  rw [hput] at htotal hcounts hdlg
  have hlog : t.dlg.recs = g.recs ∧ t.dlg.entry = g.entry ∧ (g.reserved = false → t.dlg.reserved = false) := by
    obtain hsame | hfreed := hdlg
    · exact ⟨congrArg Dlg.recs hsame, congrArg Dlg.entry hsame, (congrArg Dlg.reserved hsame).trans⟩
    · exact ⟨(congrArg Dlg.recs hfreed :), (congrArg Dlg.entry hfreed :), fun _ => congrArg Dlg.reserved hfreed⟩
  obtain ⟨hrecs, hentry, hreserved⟩ := hlog
  refine ⟨htotal, (congrArg (Vector.get · d.kind.idx) hcounts).trans (countRec_same d.kind s),
    fun i hi => (congrArg (Vector.get · i) hcounts).trans (countRec_other hi s), fun hfree => ?placed,
    fun hnone hall => ?stands, fun hends => ?ends, fun hnot hact => ?goesOn⟩
  case placed =>
    obtain ⟨h1, h2, h3⟩ := hplaced hfree
    exact ⟨hrecs.trans h1, hentry.trans h2, hreserved h3⟩
  case stands =>
    obtain ⟨h1, h2⟩ := hstands hnone hall
    exact ⟨hrecs.trans h1, hentry.trans h2⟩
  case ends =>
    obtain ⟨-, ht⟩ | ⟨hno, hlog, -⟩ | ⟨hno, hhold, -⟩ := createRecord_cases d hw
    · obtain ⟨hoverride, htaken, -, -, hhold, -, -, -, -, -, -, -, hdead, -⟩ :=
        (endCauseIsTakenOnce _ (if actionOf d.kind s = .abort then .defectAbort else .limit) _).2
          (putRecord_atWork d hw).live (ite_verdict_ne_none (actionOf d.kind s = .abort))
      rw [← ht] at hdead hhold hoverride htaken
      rw [hput] at hoverride htaken
      refine ⟨hdead, hhold, hoverride, fun hnf ha => ?_, fun hnf ha => ?_⟩
      · obtain ⟨hv, hwhy⟩ := htaken hnf
        exact ⟨hv.trans (if_pos ha), hwhy.trans (if_pos ha)⟩
      · obtain ⟨hv, hwhy⟩ := htaken hnf
        exact ⟨hv.trans (if_neg ha), hwhy.trans (if_neg ha)⟩
    · exact (hends.elim hno fun ha => nomatch hlog.symm.trans ha).elim
    · exact (hends.elim hno fun ha => nomatch hhold.symm.trans ha).elim
  case goesOn =>
    obtain ⟨hends, -⟩ | ⟨-, hlog, ht⟩ | ⟨-, hhold, ht⟩ := createRecord_cases d hw
    · exact (hends.elim hnot hact).elim
    · have htp : t = _ := ht.trans hput
      have hact_log : act = .log := hlog
      rw [htp, if_pos hact_log]
      exact ⟨hrun, hverd, rfl, rfl, rfl⟩
    · obtain ⟨q, hq⟩ := addHold_spec (if d.kind = .trip then .tripLatched else .operator) (putRecord d s)
      have htp : t = _ := ht.trans (hq.trans (by rw [hput]))
      have hnlog : ¬act = .log := fun hl => nomatch hhold.symm.trans hl
      rw [htp, if_neg hnlog]
      exact ⟨hrun, hverd, rfl, rfl, by split <;> rfl⟩

end Sys2Proof.Machine
end

section
/-! PROOFS. The work of the engines and of the print engine within a command leaves the run's number and clock and the link as
they are, but for queued notices, and never adds PAUSE to the hold set. -/

namespace Sys2Proof.Machine

/-- What of a state the engines' work does not touch: the run's number and clock, its hold set, and the frame link. -/
def State.runAndLink (s : State) := (s.rnc.runNo, s.rnc.clock, s.rnc.hold, s.flk)

/-- `t` is in the run of `s`, at the same time: PAUSE has not joined, and of the link only the queue of notices differs. -/
structure SameRun (s t : State) : Prop where
  runNo : t.rnc.runNo = s.rnc.runNo
  clock : t.rnc.clock = s.rnc.clock
  pause : s.rnc.hold.pause = false → t.rnc.hold.pause = false
  link : t.flk = { s.flk with notices := t.flk.notices }

theorem SameRun.same {s t : State} (h : t.runAndLink = s.runAndLink) : SameRun s t := by
  simp only [State.runAndLink, Prod.mk.injEq] at h
  obtain ⟨hno, hclock, hhold, hflk⟩ := h
  exact ⟨hno, hclock, by rw [hhold]; exact id, by rw [hflk]⟩

theorem SameRun.refl (s : State) : SameRun s s := .same rfl

theorem SameRun.trans {s t u : State} (h : SameRun s t) (g : SameRun t u) : SameRun s u :=
  ⟨g.runNo.trans h.runNo, g.clock.trans h.clock, g.pause ∘ h.pause, by rw [g.link, h.link]⟩

theorem SameRun.after {s t u : State} (g : SameRun t u) (h : SameRun s t) : SameRun s u := h.trans g

theorem SameRun.ite {s a b : State} {c : Prop} [Decidable c] (ha : SameRun s a) (hb : SameRun s b) :
    SameRun s (if c then a else b) := by split <;> assumption

/-! ### The run controller and the log -/

theorem sameRun_raise (k : NoticeKind) (p : List Byte) (s : State) : SameRun s (raise k p s) := by
  obtain ⟨q, hq⟩ := raise_spec k p s
  rw [hq]
  exact ⟨rfl, rfl, id, rfl⟩

theorem HoldSet.put_pause {h : HoldSet} {r : HoldReason} (b : Bool) (hr : r ≠ .pause) : (h.put b r).pause = h.pause := by
  cases r with
  | pause => exact absurd rfl hr
  | _ => rfl

theorem sameRun_addHold {r : HoldReason} (hr : r ≠ .pause) (s : State) : SameRun s (addHold r s) := by
  obtain ⟨q, hq⟩ := addHold_spec r s
  rw [hq]
  exact ⟨rfl, rfl, (HoldSet.put_pause true hr).trans, rfl⟩

theorem HoldSet.remove_pause {h : HoldSet} (rs : List HoldReason) (hp : h.pause = false) : (h.remove rs).pause = false := by
  induction rs generalizing h with
  | nil => exact hp
  | cons r rs ih =>
    refine ih ?_
    by_cases hr : r = .pause
    · rw [hr]
      rfl
    · rw [HoldSet.put_pause false hr, hp]

theorem sameRun_releaseWindow (o : Owner) (s : State) : SameRun s (releaseWindow o s) := by
  obtain ⟨m, ws, heq, -⟩ := releaseWindow_eq o s
  rw [heq]
  exact .same rfl

theorem sameRun_stopEngine (s : State) : SameRun s (stopEngine s) := by
  obtain ⟨m, ws, heq, -⟩ := stopEngine_eq s
  rw [heq]
  exact .same rfl

theorem sameRun_continueRun (s : State) : SameRun s (continueRun s) := by
  unfold continueRun
  extract_lets _ s1
  have h1 : SameRun s s1 := (sameRun_raise _ _ _).after (.same rfl)
  exact .ite (h1.trans (.same rfl)) h1

theorem sameRun_removeHold (rs : List HoldReason) (s : State) : SameRun s (removeHold rs s) := by
  unfold removeHold
  extract_lets h _ s1
  have h1 : SameRun s s1 := (sameRun_raise _ _ _).after ⟨rfl, rfl, HoldSet.remove_pause rs, rfl⟩
  exact .ite (.refl s) (.ite (h1.trans (sameRun_continueRun _)) h1)

theorem sameRun_enterEnding (s : State) : SameRun s (enterEnding s) := by
  obtain ⟨q, hq⟩ := enterEnding_eq s
  rw [hq]
  exact ⟨rfl, rfl, id, rfl⟩

theorem sameRun_disable (w : Waiter) (s : State) : SameRun s (disable w s).2 := by
  obtain ⟨h, -⟩ | ⟨h, -⟩ | ⟨t, h, -, -, -, -, -, hrnc, -, -, -, -, -, hflk, -⟩ := disable_spec w s <;> rw [h]
  · exact .refl s
  · exact .refl s
  · exact .same (by rw [State.runAndLink, hrnc, hflk]; rfl)

theorem sameRun_closeWith (a : BusAnswer) (s : State) : SameRun s (closeWith (a, s)) := by
  cases a with
  | safe => exact sameRun_enterEnding s
  | fault => exact (sameRun_enterEnding _).after (.same rfl)
  | wait => exact .refl s

/-- An end cause empties the hold set (R101). -/
theorem sameRun_endCause (v : Verdict) (why : EndReason) (s : State) : SameRun s (endCause v why s) := by
  cases hlive : s.live with
  | false => exact .same (congrArg State.runAndLink (if_pos (congrArg not hlive : (!s.live) = true)))
  | true =>
    obtain ⟨m, ws, b, q, heq, -⟩ := endCause_closes v why hlive
    have hclosing : SameRun s (s.closingOut v why m ws b q) := ⟨rfl, rfl, fun _ => rfl, rfl⟩
    rw [heq]
    exact (hclosing.trans (sameRun_disable .rnc _)).trans (sameRun_closeWith _ _)

theorem sameRun_completeRun (s : State) : SameRun s (completeRun s) := sameRun_endCause _ _ s

theorem sameRun_putRecord (d : Draft) (s : State) : SameRun s (putRecord d s) := by
  obtain ⟨-, h⟩ | ⟨-, -, -, h⟩ | ⟨-, -, h⟩ := enterLog_spec (makeRec d (s.rnc.total + 1) s) (countRec d.kind s) <;>
    exact .same (congrArg State.runAndLink h :)

theorem sameRun_createRecord (d : Draft) (s : State) : SameRun s (createRecord d s) := by
  have hput := sameRun_putRecord d s
  cases hr : s.recordable with
  | false => exact .same (congrArg State.runAndLink (if_pos (congrArg not hr : (!s.recordable) = true)))
  | true =>
    have hw : s.atWork := by simpa [State.recordable, State.atWork] using hr
    obtain ⟨-, h⟩ | ⟨-, -, h⟩ | ⟨-, -, h⟩ := createRecord_cases d hw <;> rw [h]
    · exact hput.trans (sameRun_endCause _ _ _)
    · exact hput
    · exact hput.trans (sameRun_addHold (by split <;> decide) _)

/-- A permit adds none but the boundary checks' reasons (R97). -/
theorem sameRun_permit (k : UnitKind) (s : State) : SameRun s (permit k s).2 := by
  cases hlive : s.live with
  | false => rw [permit_stopped k hlive]; exact .same rfl
  | true =>
    obtain ⟨hrun | hheld, hverd⟩ := s.live_iff.mp hlive
    · by_cases h : s.rnc.hold.join (s.checks k) = .empty
      · rw [permit_granted ⟨hrun, hverd⟩ h]
        exact .same rfl
      · obtain ⟨q, hq⟩ := permit_parked ⟨hrun, hverd⟩ h
        rw [hq]
        exact ⟨rfl, rfl, fun hp => by simp [HoldSet.join, State.checks, hp], rfl⟩
    · rw [permit_held k hheld hverd]
      exact .same rfl

theorem sameRun_heldAtEnd (s : State) : SameRun s (heldAtEnd s) := by
  obtain ⟨-, h⟩ | ⟨-, -, ⟨-, q, h⟩ | ⟨-, h⟩⟩ := heldAtEnd_spec s <;> rw [h] <;> exact ⟨rfl, rfl, id, rfl⟩

theorem sameRun_sweep (s : State) : SameRun s (sweep s) := by
  unfold sweep
  extract_lets keep _ s1 _ s2
  have h2 : SameRun s s2 := by
    unfold s2
    repeat' split
    all_goals exact .same rfl
  exact .ite (.refl s) (.ite (h2.trans (sameRun_removeHold _ _)) h2)

/-! ### The group search and the continuity engine -/

theorem sameRun_searchTake (s : State) : SameRun s (searchTake s) := by
  unfold searchTake
  split <;> exact .same rfl

theorem sameRun_searchStart (c : Caller) (cands driven : List Nat) (s : State) :
    SameRun s (searchStart c cands driven s) :=
  .ite (.same rfl) (.ite (.same rfl) ((sameRun_searchTake _).after (.same rfl)))

theorem sameRun_searchProceed (s : State) : SameRun s (searchProceed s) := by
  unfold searchProceed
  split <;> exact .same rfl

theorem sameRun_searchPark (s : State) : SameRun s (searchPark s) := .ite (.same rfl) (.refl s)

theorem sameRun_searchAnswer (a : Answer3) (s : State) : SameRun s (searchAnswer a s) := by
  unfold searchAnswer
  split
  · cases a with
    | negative => exact (sameRun_searchTake _).after (.same rfl)
    | positive m => exact .ite (.same rfl) ((sameRun_searchTake _).after (.same rfl))
    | notMeasured | abandon => exact .same rfl
  · exact .refl s

theorem sameRun_report (p : Nat) (s : State) : SameRun s (report p s) := by
  unfold report
  repeat' split
  all_goals exact .same rfl

theorem sameRun_startStep (s : State) : SameRun s (startStep s) := by
  unfold startStep
  split
  case h_4 => exact sameRun_completeRun s
  all_goals exact .same rfl

theorem sameRun_stepDone (s : State) : SameRun s (stepDone s) :=
  .ite ((sameRun_startStep _).after (.same rfl)) ((sameRun_completeRun _).after (.same rfl))

theorem sameRun_contNextNet (j : ContJob) (s : State) : SameRun s (contNextNet j s) := by
  unfold contNextNet
  split
  · exact .same rfl
  · exact sameRun_stepDone s

theorem sameRun_contDecide (j : ContJob) (s : State) : SameRun s (contDecide j s) := by
  unfold contDecide
  extract_lets ms us
  split
  case h_1 => exact .ite (sameRun_stepDone s) (.ite (.same rfl) (.same rfl))
  case h_2 =>
    split
    · exact .same rfl
    · exact .ite ((sameRun_searchStart _ _ _ _).after (.same rfl)) (sameRun_contNextNet j s)
  case h_4 => exact .same rfl
  all_goals exact sameRun_contNextNet j s

theorem sameRun_contGranted (j : ContJob) (s : State) : SameRun s (contGranted j s) := by
  unfold contGranted
  split
  case h_4 => exact sameRun_searchProceed s
  case h_3 => exact .ite (.same rfl) (.same rfl)
  all_goals exact .same rfl

theorem sameRun_zeroDecide (j : ZeroJob) (s : State) : SameRun s (zeroDecide j s) := by
  unfold zeroDecide
  split
  · exact .same rfl
  · exact (sameRun_completeRun _).after (.same rfl)

theorem sameRun_learnDecide (j : LearnJob) (s : State) : SameRun s (learnDecide j s) := by
  unfold learnDecide
  split
  · exact (sameRun_searchStart _ _ _ _).after (.same rfl)
  · exact (sameRun_completeRun _).after (.same rfl)

theorem sameRun_learnFound (q : Nat) (j : LearnJob) (s : State) : SameRun s (learnFound q j s) := by
  unfold learnFound
  split
  · exact .same rfl
  · exact .ite (.same rfl) (sameRun_endCause _ _ s)

theorem sameRun_cteWindow (s : State) : SameRun s (cteWindow s) := by
  unfold cteWindow
  repeat' split
  all_goals exact .same rfl

theorem sameRun_cteDecide (s : State) : SameRun s (cteDecide s) := by
  unfold cteDecide
  split
  · exact .refl s
  · exact sameRun_contDecide _ s
  · exact sameRun_zeroDecide _ s
  · exact sameRun_learnDecide _ s

theorem sameRun_cteGranted (s : State) : SameRun s (cteGranted s) := by
  unfold cteGranted
  split
  · exact .refl s
  · exact sameRun_contGranted _ s
  · exact .same rfl
  · exact sameRun_searchProceed s

theorem sameRun_cteParked (s : State) : SameRun s (cteParked s) := by
  unfold cteParked
  split
  · exact .refl s
  · exact .ite (sameRun_searchPark s) (.same rfl)
  · exact .same rfl
  · exact sameRun_searchPark s

theorem sameRun_cteFound (q : Nat) (m : Meas) (s : State) : SameRun s (cteFound q m s) := by
  unfold cteFound
  split
  · exact .same rfl
  · exact sameRun_learnFound q _ s
  · exact .refl s

theorem sameRun_cteSearchEnded (s : State) : SameRun s (cteSearchEnded s) := by
  unfold cteSearchEnded
  split
  · exact sameRun_contNextNet _ s
  · exact .same rfl
  · exact .refl s

/-! ### The insulation and watch engines -/

theorem sameRun_insulNextNet (j : InsulJob) (s : State) : SameRun s (insulNextNet j s) := by
  unfold insulNextNet
  split
  · exact .same rfl
  · exact sameRun_stepDone s

theorem sameRun_insulDecide (j : InsulJob) (s : State) : SameRun s (insulDecide j s) := by
  unfold insulDecide
  split
  case h_1 =>
    extract_lets cands ms
    exact .ite (sameRun_stepDone s) (.ite (sameRun_insulNextNet j s) (.ite (.same rfl) (.same rfl)))
  case h_2 => exact sameRun_insulNextNet j s
  all_goals exact .same rfl

theorem sameRun_insulGranted (j : InsulJob) (s : State) : SameRun s (insulGranted j s) := by
  unfold insulGranted
  split
  case h_4 => exact sameRun_searchProceed s
  all_goals exact .same rfl

theorem sameRun_insulSettled (j : InsulJob) (s : State) : SameRun s (insulSettled j s) := by
  unfold insulSettled
  split
  · exact .same rfl
  · exact sameRun_insulNextNet j s

theorem sameRun_insulRefused (j : InsulJob) (s : State) : SameRun s (insulRefused j s) := by
  unfold insulRefused
  split <;> exact .same rfl

theorem sameRun_startLocalise (j : InsulJob) (s : State) : SameRun s (startLocalise j s) :=
  .ite (.same rfl) ((sameRun_searchStart _ _ _ _).after (.same rfl))

theorem sameRun_insulSafe (j : InsulJob) (s : State) : SameRun s (insulSafe j s) := by
  unfold insulSafe
  split
  · exact .same rfl
  · split
    · exact .same rfl
    · exact .ite (sameRun_startLocalise j s) (sameRun_insulNextNet j s)
    · exact sameRun_insulNextNet j s
  · exact .refl s

theorem sameRun_iseEnergise (s : State) : SameRun s (iseEnergise s) := by
  unfold iseEnergise hvRequest
  repeat' split
  all_goals exact .same rfl

theorem sameRun_beginClosing (j : WatchJob) (s : State) : SameRun s (beginClosing j s) :=
  (sameRun_releaseWindow .wte s).trans (.same rfl)

theorem sameRun_watchDecide (j : WatchJob) (s : State) : SameRun s (watchDecide j s) := by
  unfold watchDecide
  split
  · refine .ite (sameRun_beginClosing j s) ?_
    split
    · exact sameRun_beginClosing j s
    · extract_lets j' p usable s1
      have h1 : SameRun s s1 := .ite (.refl s) (sameRun_releaseWindow .wte s)
      exact h1.trans (.same rfl)
  · split
    · refine (sameRun_stepDone _).after ?_
      split <;> exact .same rfl
    · exact .same rfl

theorem sameRun_watchGranted (j : WatchJob) (s : State) : SameRun s (watchGranted j s) := by
  unfold watchGranted
  repeat' split
  all_goals exact .same rfl

theorem sameRun_watchSettled (bad : Bool) (j : WatchJob) (s : State) : SameRun s (watchSettled bad j s) :=
  .ite ((sameRun_releaseWindow .wte s).trans (.same rfl)) (.ite (.same rfl) (.same rfl))

theorem sameRun_pairUntest (j : WatchJob) (s : State) : SameRun s (pairUntest j s) :=
  (sameRun_createRecord _ _).after ((sameRun_releaseWindow .wte s).trans (.same rfl))

/-! ### The engine at work -/

theorem sameRun_engineDecide (s : State) : SameRun s (engineDecide s) := by
  unfold engineDecide
  split
  · exact sameRun_insulDecide _ s
  · exact sameRun_watchDecide _ s
  · exact sameRun_cteDecide s

theorem sameRun_granted (s : State) : SameRun s (granted s) := by
  unfold granted
  split
  · exact sameRun_insulGranted _ s
  · exact sameRun_watchGranted _ s
  · exact sameRun_cteGranted s

theorem sameRun_parked (s : State) : SameRun s (parked s) := by
  unfold parked
  split
  · exact .ite (sameRun_searchPark s) (.same rfl)
  · exact (sameRun_releaseWindow .wte s).trans (.same rfl)
  · exact sameRun_cteParked s

theorem sameRun_askPermit (s : State) : SameRun s (askPermit s) := by
  have hp : SameRun s (permit (askKind s) (heldAtEnd s)).2 := (sameRun_heldAtEnd s).trans (sameRun_permit _ _)
  unfold askPermit
  split <;> rename_i t ht <;> rw [ht] at hp
  · exact hp.trans (sameRun_granted t)
  · exact hp.trans (sameRun_parked t)
  · exact hp.trans (sameRun_stopEngine t)

theorem sameRun_runAct (a : Act) (s : State) : SameRun s (runAct a s) := by
  cases a with
  | decide => exact sameRun_engineDecide s
  | ask => exact sameRun_askPermit s
  | record d => exact sameRun_createRecord d s
  | untest p => exact .ite (.refl s) ((sameRun_report p s).trans (sameRun_createRecord _ _))
  | energise => exact sameRun_iseEnergise s
  | searchSettled ok nd => exact .ite (.refl s) (.ite (.same rfl) (.ite (.same rfl) (.same rfl)))
  | searchNext => exact sameRun_searchTake s
  | searchAnswer ans => exact sameRun_searchAnswer _ s
  | window => dsimp only [runAct, engineWindow]; split; exacts [.same rfl, sameRun_cteWindow s]
  | pairUntest => dsimp only [runAct]; split; exacts [sameRun_pairUntest _ s, .refl s]
  | pairSettled al ml =>
    dsimp only [runAct, pairSettled]
    repeat' split
    all_goals exact .same rfl
  | zeroSettled rl pl =>
    dsimp only [runAct]
    split
    · exact .ite (sameRun_completeRun s) (.ite (.same rfl) (.same rfl))
    · exact .refl s
  | watchAdvance => dsimp only [runAct]; split; exacts [.same rfl, .refl s]
  | watchSettled bad => dsimp only [runAct]; split; exacts [sameRun_watchSettled _ _ s, .refl s]
  | insulSettled => dsimp only [runAct]; split; exacts [sameRun_insulSettled _ s, .refl s]
  | found q pos m => dsimp only [runAct]; split; exacts [.same rfl, sameRun_cteFound _ _ s]
  | searchEnded e n =>
    dsimp only [runAct]
    split
    · exact .ite (.same rfl) (sameRun_insulNextNet _ s)
    · exact sameRun_cteSearchEnded s
  | insulSafe => dsimp only [runAct]; split; exacts [sameRun_insulSafe _ s, .refl s]
  | insulRefused c => dsimp only [runAct]; split; exacts [sameRun_insulRefused _ s, .refl s]

theorem sameRun_pump (n : Nat) (s : State) : SameRun s (pump n s) :=
  pump_keeps (P := SameRun s) (fun a _ _ _ h => (sameRun_runAct a _).after (h.trans (.same rfl))) n s (.refl s)

/-! ### The print engine and the stream -/

theorem sameRun_setPre (st : PreState) (s : State) : SameRun s (setPre st s) :=
  .ite (.refl s) ((sameRun_raise _ _ _).after (.same rfl))

theorem sameRun_clearPrintMarks (s : State) : SameRun s (clearPrintMarks s) :=
  (sameRun_sweep _).after (.same rfl)

theorem sameRun_disableNow (s : State) : SameRun s (disableNow s) := by
  unfold disableNow
  extract_lets _ s1
  have h1 : SameRun s s1 := (sameRun_clearPrintMarks _).after (.same rfl)
  exact (sameRun_setPre .disabled _).after (h1.trans (.same rfl))

theorem sameRun_haltedOr (st : PreState) (s : State) : SameRun s (haltedOr st s) := by
  unfold haltedOr
  extract_lets _ s1
  have h1 : SameRun s s1 := (sameRun_setPre st _).after (.same rfl)
  exact .ite (h1.trans (sameRun_disableNow _)) h1

theorem sameRun_boundary (s : State) : SameRun s (boundary s) := by
  unfold boundary
  repeat' split
  · exact .refl s
  · exact sameRun_haltedOr _ s
  · exact (sameRun_setPre _ _).after (.same rfl)
  · exact (sameRun_setPre _ s).trans (.same rfl)
  · exact .refl s

theorem sameRun_beginLine (k : LineKind) (slot : Nat) (text : List Byte) (s : State) :
    SameRun s (beginLine k slot text s) :=
  (sameRun_boundary _).after ((sameRun_setPre .printing _).after (.same rfl))

theorem sameRun_decidePrint (s : State) : SameRun s (decidePrint s) := by
  unfold decidePrint
  split
  · exact sameRun_setPre _ s
  · refine .ite (sameRun_beginLine _ _ _ s) ?_
    split
    · exact .ite ((sameRun_beginLine _ _ _ _).after (.same rfl)) ((sameRun_beginLine _ _ _ _).after (.same rfl))
    · split
      · exact .ite (sameRun_beginLine _ _ _ s) (sameRun_setPre _ s)
      · exact sameRun_setPre _ s

theorem sameRun_wakePrint (s : State) : SameRun s (wakePrint s) := .ite (sameRun_decidePrint s) (.refl s)

theorem sameRun_streamOne (s : State) : SameRun s (streamOne s) := by
  unfold streamOne
  refine .ite ?_ (.refl s)
  split
  · exact ⟨rfl, rfl, id, rfl⟩
  · exact .refl s

theorem sameRun_streamFill (s : State) : SameRun s (streamFill s) :=
  ((sameRun_streamOne s).trans (sameRun_streamOne _)).trans (sameRun_streamOne _)

end Sys2Proof.Machine
end

section
/-! PROOFS. RESUME, and the run that goes on with a fresh permit; O22. -/

namespace Sys2Proof.Machine

/-! ### Reasons that leave the hold set (R98) -/

/-- Reasons that leave something in the set, or leave a run that is not HELD, change the set alone. -/
theorem removeHold_stays {rs : List HoldReason} {s : State}
    (h : ¬(s.rnc.state = .held ∧ s.rnc.hold.remove rs = .empty ∧ s.rnc.hold ≠ .empty)) :
    ∃ q, removeHold rs s =
      { s with rnc := { s.rnc with hold := s.rnc.hold.remove rs }, flk := { s.flk with notices := q } } := by
  unfold removeHold
  extract_lets left _ s1
  by_cases hsame : left = s.rnc.hold
  · exact ⟨s.flk.notices, (if_pos hsame).trans (by rw [show s.rnc.hold.remove rs = s.rnc.hold from hsame])⟩
  · have hstay : ¬(decide (s1.rnc.state = .held) && left.isEmpty) = true := by
      intro hgo
      obtain ⟨hheld, hempty⟩ := Bool.and_eq_true_iff.mp hgo
      have hnone : left = .empty := by rwa [HoldSet.isEmpty, beq_iff_eq] at hempty
      have hstate : s.rnc.state = .held := by simpa [s1] using hheld
      exact h ⟨hstate, hnone, fun hold => hsame (hnone.trans hold.symm)⟩
    obtain ⟨q, hq⟩ := raise_spec .run (nRunPayload { s with rnc.hold := left }) { s with rnc.hold := left }
    exact ⟨q, (if_neg hsame).trans ((if_neg hstay).trans hq)⟩

/-- A HELD run whose set becomes empty is RUNNING, and an engine that waits for a permit asks again. -/
theorem removeHold_continues {rs : List HoldReason} {s : State} (hheld : s.rnc.state = .held)
    (hnone : s.rnc.hold.remove rs = .empty) (hsome : s.rnc.hold ≠ .empty) : ∃ q, removeHold rs s =
      let t : State := { s with
        rnc := { s.rnc with hold := .empty, state := .running }, flk := { s.flk with notices := q } }
      if s.rnc.waits then later [.ask] (unpark { t with rnc := { t.rnc with waits := false } }) else t := by
  obtain ⟨q1, h1⟩ := raise_spec .run (nRunPayload { s with rnc.hold := .empty }) { s with rnc.hold := .empty }
  obtain ⟨q2, h2⟩ := raise_spec .run (nRunPayload { s with
      rnc := { s.rnc with hold := .empty, state := .running }, flk := { s.flk with notices := q1 } }) { s with
      rnc := { s.rnc with hold := .empty, state := .running }, flk := { s.flk with notices := q1 } }
  have hgo : removeHold rs s = continueRun (raiseRun { s with rnc.hold := .empty }) := by
    unfold removeHold
    rw [hnone, if_neg (Ne.symm hsome)]
    exact if_pos (by rw [show (raiseRun { s with rnc.hold := .empty }).rnc.state = .held by simpa using hheld]; rfl)
  refine ⟨q2, hgo.trans ?_⟩
  rw [raiseRun, h1]
  unfold continueRun
  rw [raiseRun, h2]

/-! ### The permit of an engine that asks again (R97, R98) -/

/-- PARK moves no batch, and leaves the run and the log as they are. -/
theorem parked_leaves (s : State) : (parked s).rnc = s.rnc ∧ (parked s).dlg = s.dlg ∧ (parked s).mxc = s.mxc ∧
    (parked s).pre = s.pre ∧ (parked s).todo = s.todo ∧ (parked s).hvc.energised = s.hvc.energised := by
  have hrelease : ∀ j, ∃ m ws, watchParked j s = setWte { j with phase := .parked }
      { s with msu := m, hvc := { s.hvc with waiters := ws } } := fun j => by
    obtain ⟨m, ws, heq, -⟩ := releaseWindow_eq .wte s
    exact ⟨m, ws, congrArg (setWte { j with phase := .parked }) heq⟩
  unfold parked
  split
  · unfold insulParked searchPark
    repeat' split
    all_goals exact ⟨rfl, rfl, rfl, rfl, rfl, rfl⟩
  · obtain ⟨m, ws, heq⟩ := hrelease _
    rw [heq]
    exact ⟨rfl, rfl, rfl, rfl, rfl, rfl⟩
  · unfold cteParked searchPark
    repeat' split
    all_goals exact ⟨rfl, rfl, rfl, rfl, rfl, rfl⟩

/-- A search that waits for PROCEED, parked or not, asks for its batch when it comes (R54). -/
theorem searchProceed_asks {s : State} {r : BatchReq} (hr : s.gsu.nextBatch = some r) :
    ∃ g, searchProceed (unpark s) =
      { unpark s with gsu := g, mxc := { s.mxc with held := s.mxc.held ++ [r] } } := by
  unfold Gsu.nextBatch at hr
  split at hr
  · rename_i hstate
    obtain ⟨iv, hcur, rfl⟩ := Option.map_eq_some_iff.mp hr
    have hasking : (unpark s).gsu.state = .asking := by
      obtain h | h := hstate <;> simp [unpark, h]
    refine ⟨{ (unpark s).gsu with state := .connecting }, ?_⟩
    have hcur' : (unpark s).gsu.cur = some iv := hcur
    unfold searchProceed
    rw [hasking, hcur']
    rfl
  · cases hr

/-- GRANT to the engine that waits for a permit: the batch of its unit is asked for (R142, R160, R113, R117, R78, R82). -/
theorem granted_asks {s : State} {r : BatchReq} (hr : s.waitingBatch = some r) : ∃ g c i w,
    granted (unpark s) =
      { s with gsu := g, cte := c, ise := i, wte := w, mxc := { s.mxc with held := s.mxc.held ++ [r] } } := by
  have hsearch (hnext : s.gsu.nextBatch = some r) : ∃ g c i w, searchProceed (unpark s) =
      { s with gsu := g, cte := c, ise := i, wte := w, mxc := { s.mxc with held := s.mxc.held ++ [r] } } := by
    obtain ⟨g, hg⟩ := searchProceed_asks hnext
    exact ⟨g, _, _, _, hg⟩
  cases hi : s.ise with
  | some j =>
    simp only [State.waitingBatch, hi] at hr
    have hise : (unpark s).ise = some { j with phase := if j.phase = .parked then .asking else j.phase } := by
      simp [unpark, hi]
    simp only [granted, hise]
    cases hst : j.stage <;> simp only [hst, reduceCtorEq, Option.some.injEq] at hr <;> simp only [insulGranted]
    case unit => exact hr ▸ ⟨_, _, _, _, rfl⟩
    case localise => exact hsearch hr
  | none =>
    have hise : (unpark s).ise = none := by simp [unpark, hi]
    cases hw : s.wte with
    | some j =>
      have hwte : (unpark s).wte = some { j with phase := if j.phase = .parked then .asking else j.phase } := by
        simp [unpark, hw]
      simp only [State.waitingBatch, hi, hw] at hr
      split at hr
      · rename_i hsampling
        obtain ⟨hst, hrec⟩ := hsampling
        simp only [granted, hise, hwte, watchGranted, hst, hrec]
        cases hr
        exact ⟨_, _, _, _, rfl⟩
      · cases hr
    | none =>
      have hwte : (unpark s).wte = none := by simp [unpark, hw]
      simp only [State.waitingBatch, hi, hw] at hr
      simp only [granted, hise, hwte, cteGranted]
      cases hc : s.cte with
      | none => simp [hc] at hr
      | zero j =>
        have hcte : (unpark s).cte = .zero { j with phase := if j.phase = .parked then .asking else j.phase } := by
          simp [unpark, hc]
        simp only [hc, Option.some.injEq] at hr
        simp only [hcte]
        exact hr ▸ ⟨_, _, _, _, rfl⟩
      | learn j =>
        have hcte : (unpark s).cte = .learn { j with phase := if j.phase = .parked then .asking else j.phase } := by
          simp [unpark, hc]
        simp only [hc] at hr
        simp only [hcte]
        exact hsearch hr
      | cont j =>
        have hcte : (unpark s).cte = .cont { j with phase := if j.phase = .parked then .asking else j.phase } := by
          simp [unpark, hc]
        simp only [hc] at hr
        simp only [hcte]
        cases hst : j.stage <;> simp only [hst, reduceCtorEq] at hr <;> simp only [contGranted]
        case shorts => exact hsearch hr
        case pairs =>
          split at hr
          · cases hr
          · rename_i hrec
            rw [if_neg hrec]
            cases hr
            exact ⟨_, _, _, _, rfl⟩

/-! ### What follows a request within its command -/

/-- The work that follows a request carried out, when no batch was in flight: the engines', the printer's, the stream's and the
transmitter's. -/
def State.workedOff (s : State) : State :=
  streamFill (transmit (streamFill (wakePrint (heldAtEnd
    (pump Config.engineFuel (pump Config.engineFuel s))))))

theorem request_worksOff {s t : State} (i : Instr) (h : s.quiet) (f : Frame) (ht : carryOut i s.taken = place f t)
    (hb : s.mxc.batch = none) : request i s = .next (place f t).workedOff := by
  unfold request command finish
  have hsame : ∀ u, takeAfterSettle s u = u := fun u => takeAfterSettle_same fun _ => hb
  simp only [request_quiet i h, ht, hsame]
  rfl

theorem transmit_reply {s : State} {f : Frame} (hw : s.flk.wire = none) (hr : s.flk.reply = some f) :
    transmit s = { s with flk := { s.flk with reply := none, wire := replyWire f } } := by
  unfold transmit
  rw [hw, hr]
  rfl

/-- Whatever the engines do then, the reply goes on the wire, the run goes on at its time, and PAUSE does not join. -/
theorem workedOff_replies {s : State} {f : Frame} (hw : s.flk.wire = none) (hr : s.flk.reply = some f) :
    s.workedOff.flk.wire = replyWire f ∧ s.workedOff.rnc.runNo = s.rnc.runNo ∧ s.workedOff.rnc.clock = s.rnc.clock ∧
    (s.rnc.hold.pause = false → s.workedOff.rnc.hold.pause = false) := by
  have hwork := ((((sameRun_pump Config.engineFuel s).trans (sameRun_pump Config.engineFuel _)).trans
    (sameRun_heldAtEnd _)).trans (sameRun_wakePrint _)).trans (sameRun_streamFill _)
  have hfill := sameRun_streamFill (transmit (streamFill (wakePrint (heldAtEnd
    (pump Config.engineFuel (pump Config.engineFuel s))))))
  rw [transmit_reply (f := f) (by rw [hwork.link]; exact hw) (by rw [hwork.link]; exact hr)] at hfill
  have heq : s.workedOff = streamFill _ :=
    congrArg streamFill (transmit_reply (f := f) (by rw [hwork.link]; exact hw) (by rw [hwork.link]; exact hr))
  rw [heq]
  exact ⟨by rw [hfill.link], hfill.runNo.trans hwork.runNo, hfill.clock.trans hwork.clock, hfill.pause ∘ hwork.pause⟩

/-- An engine whose one act is a permit, after which nothing waits to be done: that permit, and the reply. -/
theorem workedOff_permit {s v : State} {f : Frame} (ht : s.todo = [.ask]) (hh : s.dlg.heldBack = none)
    (hv : askPermit { s with todo := [] } = v) (hs : v.settled) (hw : v.flk.wire = none) (hr : v.flk.reply = some f) :
    s.workedOff = { v with flk := { v.flk with reply := none, wire := replyWire f } } := by
  obtain ⟨htodo, hprint, hstream, hstruck⟩ := hs
  have hpump : pump Config.engineFuel s = v := by
    rw [show Config.engineFuel = (Config.engineFuel - 1) + 1 from rfl, pump_act ht hh]
    exact (congrArg (pump _) hv).trans (pump_nil _ htodo)
  unfold State.workedOff
  rw [hpump, pump_nil _ htodo, heldAtEnd_settled hstruck, wakePrint_settled hprint, streamFill_settled hstream,
    transmit_reply hw hr]
  exact streamFill_settled hstream

/-! ### The run that goes on (R98) -/

/-- The unit that the engine waiting for a permit asks for. -/
def State.askedKind (s : State) : UnitKind :=
  match s.ise with
  | some j => if j.stage = .unit ∨ j.stage = .localise then UnitKind.insulation else .low
  | none => .low

theorem askKind_unpark (s : State) : askKind (unpark s) = s.askedKind := by
  cases hi : s.ise with
  | none => simp [askKind, State.askedKind, unpark, hi]
  | some j => cases hst : j.stage <;> simp [askKind, State.askedKind, unpark, hi, insulKind, hst]

/-- The run gone on, its engine's permit still to be asked: with the queue of notices `q`. -/
def State.goingOn (q : List Notice) (s : State) : State :=
  unpark { s with
    rnc := { s.rnc with hold := .empty, state := .running, waits := false }, flk := { s.flk with notices := q } }

/-- A state stays settled while nothing joins the acts, the log or the printer's slots, and a strike and its energisation
stay as they are. -/
theorem settled_of_struck {s u : State} (h : s.settled) (htodo : u.todo = []) (hpre : u.pre = s.pre)
    (hdlg : u.dlg.recs = s.dlg.recs ∧ u.dlg.entry = s.dlg.entry ∧ u.dlg.streaming = s.dlg.streaming)
    (hstruck : u.rnc.struck = s.rnc.struck) (hhv : u.hvc.energised = s.hvc.energised) : u.settled := by
  obtain ⟨-, hprint, hstream, hstrike⟩ := h
  obtain ⟨hrecs, hentry, hon⟩ := hdlg
  refine ⟨htodo, ?_, by rw [hrecs, hon]; exact hstream, by rw [hstruck, hhv]; exact hstrike⟩
  simpa only [State.nothingToPrint, runMarked, hpre, hrecs, hentry] using hprint

/-- A run gone on has no strike to take before its permit, which is asked for the unit that waited. -/
theorem goingOn_asks {s : State} (f : Frame) (q : List Notice) (hs : s.settled) :
    heldAtEnd (place f (s.goingOn q)) = place f (s.goingOn q) ∧ askKind (place f (s.goingOn q)) = s.askedKind := by
  obtain ⟨-, -, -, hstrike⟩ := hs
  exact ⟨heldAtEnd_settled hstrike, askKind_unpark _⟩

theorem askPermit_of_park {s t : State} {k : UnitKind} (h : heldAtEnd s = s ∧ askKind s = k)
    (hp : permit k s = (.park, t)) : askPermit s = parked t := by
  rw [askPermit, h.1, h.2, hp]

theorem askPermit_of_grant {s t : State} {k : UnitKind} (h : heldAtEnd s = s ∧ askKind s = k)
    (hp : permit k s = (.grant, t)) : askPermit s = granted t := by
  rw [askPermit, h.1, h.2, hp]

/-- A boundary check that fails: HELD again, by what the checks find. -/
theorem goingOn_parks {s : State} (f : Frame) (q : List Notice) (hs : s.settled) (hheld : s.rnc.state = .held)
    (hverd : s.rnc.verdict = .none) (hwaits : s.rnc.waits = true) (hc : s.checks s.askedKind ≠ .empty) :
    ∃ v, askPermit (place f (s.goingOn q)) = v ∧ v.settled ∧
      v.rnc = { s.rnc with hold := s.checks s.askedKind, unit := none } ∧
      v.dlg = { s.dlg with reserved := false } ∧ v.mxc = s.mxc := by
  obtain ⟨q', hq⟩ := permit_parked (s := place f (s.goingOn q)) (k := s.askedKind) ⟨rfl, hverd⟩ hc
  have hask := askPermit_of_park (goingOn_asks f q hs) hq
  obtain ⟨hrnc, hdlg, hmxc, hpre, htodo, hhv⟩ := parked_leaves { place f (s.goingOn q) with
    dlg := { s.dlg with reserved := false }
    rnc := { (s.goingOn q).rnc with unit := none, hold := s.checks s.askedKind, state := .held, waits := true }
    flk := { (place f (s.goingOn q)).flk with notices := q' } }
  have hsame : { s.rnc with state := .held, waits := true } = s.rnc := by rw [← hheld, ← hwaits]
  refine ⟨_, hask, settled_of_struck hs (htodo.trans hs.1) hpre ?_ (congrArg Rnc.struck hrnc :) hhv, ?_, hdlg, hmxc⟩
  · exact ⟨(congrArg Dlg.recs hdlg :), (congrArg Dlg.entry hdlg :), (congrArg Dlg.streaming hdlg :)⟩
  · exact hrnc.trans (congrArg (fun r : Rnc => { r with hold := s.checks s.askedKind, unit := none }) hsame)

/-- Else the permit is granted, and the unit's batch asked for. -/
theorem goingOn_grants {s : State} (f : Frame) (q : List Notice) {r : BatchReq} (hs : s.settled)
    (hverd : s.rnc.verdict = .none) (hc : s.checks s.askedKind = .empty) (hr : s.waitingBatch = some r) :
    ∃ v, askPermit (place f (s.goingOn q)) = v ∧ v.settled ∧
      v.rnc = { s.rnc with hold := .empty, state := .running, waits := false, unit := some s.askedKind } ∧
      v.dlg = { s.dlg with reserved := true } ∧ v.mxc = { s.mxc with held := s.mxc.held ++ [r] } := by
  have hask := askPermit_of_grant (goingOn_asks f q hs)
    (permit_granted (s := place f (s.goingOn q)) (k := s.askedKind) ⟨rfl, hverd⟩ hc)
  obtain ⟨g, c, i, w, hg⟩ := granted_asks (s := { s with
    dlg := { s.dlg with reserved := true }
    rnc := { s.rnc with hold := .empty, state := .running, waits := false, unit := some s.askedKind }
    flk := { s.flk with notices := q, reply := some f } }) hr
  exact ⟨_, hask.trans hg, settled_of_struck hs hs.1 rfl ⟨rfl, rfl, rfl⟩ rfl rfl, rfl, rfl, rfl⟩

/-- A run gone on whose permit leaves nothing to do: that permit, and the reply. -/
theorem goingOn_worksOff {s v : State} {f : Frame} {q : List Notice} (hs : s.settled) (hback : s.dlg.heldBack = none)
    (hwire : s.flk.wire = none) (hv : askPermit (place f (s.goingOn q)) = v) (hvs : v.settled) :
    (place f (later [.ask] (s.goingOn q))).workedOff =
      { v with flk := { v.flk with reply := none, wire := replyWire f } } := by
  have htodo : s.todo = [] := hs.1
  have hrest : { place f (later [.ask] (s.goingOn q)) with todo := [] } = place f (s.goingOn q) :=
    congrArg (fun acts => { place f (s.goingOn q) with todo := acts }) htodo.symm
  have hlink := (sameRun_askPermit (place f (s.goingOn q))).link
  rw [hv] at hlink
  exact workedOff_permit (congrArg (· ++ [Act.ask]) htodo) hback ((congrArg askPermit hrest).trans hv) hvs
    (by rw [hlink]; exact hwire) (by rw [hlink]; rfl)

/-- A run gone on, whose engine waited for a permit (R98). -/
theorem goingOn_wentOn {s : State} (f : Frame) (q : List Notice) (hs : s.settled) (hheld : s.rnc.state = .held)
    (hverd : s.rnc.verdict = .none) (hwaits : s.rnc.waits = true) (hwire : s.flk.wire = none) :
    s.wentOn (place f (later [.ask] (s.goingOn q))).workedOff := by
  obtain ⟨-, hrunNo, hclock, hpause⟩ := workedOff_replies (s := place f (later [.ask] (s.goingOn q))) (f := f) hwire rfl
  refine ⟨fun hno => by simp [hwaits] at hno, fun _ hback =>
    ⟨fun hc => ?_, fun hc => ⟨fun r hr => ?_, hpause rfl, hrunNo, hclock⟩⟩⟩
  · obtain ⟨v, hv, hvs, hrnc, hdlg, hmxc⟩ := goingOn_parks f q hs hheld hverd hwaits hc
    rw [goingOn_worksOff hs hback hwire hv hvs]
    exact ⟨hrnc, hdlg, hmxc⟩
  · obtain ⟨v, hv, hvs, hrnc, hdlg, hmxc⟩ := goingOn_grants f q hs hverd hc hr
    rw [goingOn_worksOff hs hback hwire hv hvs]
    exact ⟨hrnc, hdlg, hmxc⟩

/-- RESUME of a live run, unless GUARD is held and the guard is open (R99). -/
theorem resume_removes {s t : State} (hlive : s.live = true)
    (hsafe : ¬(s.rnc.hold.guard = true ∧ s.hvc.guardClosed = false))
    (ht : removeHold [.pause, .operator, .linkLost, .guard] s = t) :
    doResume s = place (replyFrame 0x13#8 (holdPayload t)) t := by
  have hguard : ¬(s.rnc.hold.guard && !s.hvc.guardClosed) = true := by simpa using hsafe
  rw [doResume, if_pos hlive, if_neg hguard, ht]
  rfl

/-- Settles O22: RESUME refused, the reasons removed (`removeHold_stays`, `removeHold_continues`), and the permit of a run that
goes on (`goingOn_parks`, `goingOn_grants`, `workedOff_replies`). -/
theorem resumeRemovesItsReasons : Obligations.ResumeRemovesItsReasons := by
  intro s hq live h goesOn
  have hlive : s.taken.live = true ↔ live := s.live_iff
  have hdo : carryOut .resume s.taken = doResume s.taken := rfl
  refine ⟨fun hno => ?dead, fun hl hg ho => ?notSafe, fun hl hsafe hbatch => ?removed⟩
  case dead => exact request_answered .resume hq _ (hdo.trans (if_neg (mt hlive.mp hno)))
  case notSafe =>
    have hguard : (s.taken.rnc.hold.guard && !s.taken.hvc.guardClosed) = true := by simp [hg, ho]
    exact request_answered .resume hq _ (hdo.trans ((if_pos (hlive.mpr hl)).trans (if_pos hguard)))
  case removed =>
    have ⟨⟨hsettled, _⟩, _, hwire, _, _⟩ := hq
    by_cases hgo : goesOn
    · have ⟨hheld, hnone, hsome⟩ := hgo
      obtain ⟨q, hr⟩ := removeHold_continues (rs := [.pause, .operator, .linkLost, .guard]) (s := s.taken) hheld hnone hsome
      cases hwaits : s.rnc.waits with
      | false =>
        have hreply := hdo.trans (resume_removes (hlive.mpr hl) hsafe (hr.trans (if_neg (by simp [hwaits]))))
        refine ⟨_, request_answers .resume hq _ _ hreply hsettled hwire rfl id, ?_,
          fun _ => ⟨fun _ => ⟨rfl, rfl, rfl⟩, fun hw => absurd hw (by simp [hwaits])⟩, fun _ => ?_⟩
        · rw [if_pos hgo, show h = .empty from hnone]
          rfl
        · rw [if_pos hgo, show h = .empty from hnone]
          exact ⟨rfl, rfl, rfl, rfl, rfl, rfl, rfl, rfl, rfl, rfl, rfl, hsettled.1⟩
      | true =>
        have hreply := hdo.trans (resume_removes (hlive.mpr hl) hsafe (hr.trans (if_pos hwaits)))
        refine ⟨_, request_worksOff .resume hq _ hreply (hbatch hgo), ?_,
          fun _ => goingOn_wentOn _ q hsettled hheld hl.2 hwaits hwire, fun hor => hor.elim (absurd hgo) nofun⟩
        refine (workedOff_replies (s := place _ (later [.ask] (s.taken.goingOn q))) hwire rfl).1.trans ?_
        rw [if_pos hgo, show h = .empty from hnone]
        rfl
    · obtain ⟨q, hr⟩ := removeHold_stays (rs := [.pause, .operator, .linkLost, .guard]) (s := s.taken) hgo
      have hreply := hdo.trans (resume_removes (hlive.mpr hl) hsafe hr)
      refine ⟨_, request_answers .resume hq _ _ hreply hsettled hwire rfl id, ?_, fun hyes => absurd hyes hgo, fun _ => ?_⟩
      · rw [if_neg hgo]
        exact congrArg (fun g : HoldSet => replyWire (replyFrame 0x13#8 (le8 s.rnc.state.code ++ le8 g.code)))
          (Rnc.shownHold_live (r := { s.rnc with hold := h }) hl.1)
      · rw [if_neg hgo]
        exact ⟨rfl, rfl, rfl, rfl, rfl, rfl, rfl, rfl, rfl, rfl, rfl, hsettled.1⟩

end Sys2Proof.Machine
end

section
/-! PROOFS. What the engines' and the printer's work does to high voltage (R130, R33, R13, R103): it enables no source, opens no
gate, begins no move of the matrix and clears no latch; and where it ends a run, the source is off by then. -/

namespace Sys2Proof.Machine

/-! ### Work that raises no voltage -/

/-- What the enabling conditions and the discharge look at, with the peak hold: no work of an engine writes these. -/
def Hvc.inputs (h : Hvc) := (h.guardClosed, h.tripLatch, h.dischLatch, h.linkExpired, h.bus, h.peakHold)

/-- What of a state the laws of the source and the gate speak of. -/
def State.hvView (s : State) :=
  (s.hvc.inputs, s.hvc.sourceOn, s.msu.gateOpen, s.moving, s.rnc.state, s.rnc.verdict)

/-- A run may enter ENDING: the bus is safe, or the discharge-fault latch set (R101, R104). -/
def State.mayEnd (s : State) : Prop := s.hvc.bus ≤ 30000 ∨ s.hvc.dischLatch = true

/-- From `s` to `t` the source, the gate and the matrix have at most gone to rest. -/
structure Rests (s t : State) : Prop where
  inputs : t.hvc.inputs = s.hvc.inputs
  source : t.hvc.sourceOn = true → s.hvc.sourceOn = true
  gate : t.msu.gateOpen = true → s.msu.gateOpen = true
  moving : t.moving = true → s.moving = true

/-- And a run that has ended or closes out has its source off, and has not entered ENDING on a charged bus but by R104. -/
structure Works (s t : State) : Prop extends Rests s t where
  closed : s.closedLaw → t.closedLaw
  ending : t.rnc.state = .ending → s.rnc.state = .ending ∨ s.mayEnd

theorem Rests.trans {s t u : State} (h : Rests s t) (g : Rests t u) : Rests s u :=
  ⟨g.inputs.trans h.inputs, h.source ∘ g.source, h.gate ∘ g.gate, h.moving ∘ g.moving⟩

theorem Rests.after {s t u : State} (g : Rests t u) (h : Rests s t) : Rests s u := h.trans g

theorem Rests.mayEnd {s t : State} (h : Rests s t) : t.mayEnd ↔ s.mayEnd := by
  have hin := h.inputs
  simp only [Hvc.inputs, Prod.mk.injEq] at hin
  obtain ⟨-, -, hlatch, -, hbus, -⟩ := hin
  rw [State.mayEnd, State.mayEnd, hlatch, hbus]

theorem Works.trans {s t u : State} (h : Works s t) (g : Works t u) : Works s u where
  toRests := h.toRests.trans g.toRests
  closed := g.closed ∘ h.closed
  ending := fun hu => (g.ending hu).elim h.ending fun hm => .inr (h.mayEnd.mp hm)

theorem Works.after {s t u : State} (g : Works t u) (h : Works s t) : Works s u := h.trans g

/-- With the source off, R103's law asks nothing. -/
theorem State.closedLaw.of_off {s : State} (h : s.hvc.sourceOn = false) : s.closedLaw := fun _ => h

/-- A run comes to RUNNING or HELD, and takes no end cause by it. -/
theorem Works.of_live {s t : State} (h : t.hvc = s.hvc) (hm : t.msu = s.msu) (hx : t.moving = s.moving)
    (hrun : t.rnc.state = .running ∨ t.rnc.state = .held) (hv : t.rnc.verdict ≠ .none → s.rnc.verdict ≠ .none) :
    Works s t where
  inputs := by rw [h]
  source := by rw [h]; exact id
  gate := by rw [hm]; exact id
  moving := by rw [hx]; exact id
  closed := fun hs => by
    rintro (⟨hr, hh⟩ | hne)
    · exact absurd hrun (not_or.mpr ⟨hr, hh⟩)
    · rw [h]; exact hs (.inr (hv hne))
  ending := fun he => by rw [he] at hrun; exact absurd hrun (by decide)

/-- An operation that changes nothing the laws speak of. -/
theorem Works.same {s t : State} (h : t.hvView = s.hvView) : Works s t := by
  simp only [State.hvView, Prod.mk.injEq] at h
  obtain ⟨hin, hsrc, hgate, hmov, hrun, hverd⟩ := h
  refine ⟨⟨hin, by rw [hsrc]; exact id, by rw [hgate]; exact id, by rw [hmov]; exact id⟩, ?_, by rw [hrun]; exact .inl⟩
  rw [State.closedLaw, State.closedLaw, hsrc, hrun, hverd]
  exact id

theorem Works.refl (s : State) : Works s s := .same rfl

theorem Works.ite {s a b : State} {c : Prop} [Decidable c] (ha : Works s a) (hb : Works s b) :
    Works s (if c then a else b) := by split <;> assumption

/-! ### Notices, windows, high voltage -/

theorem works_raise (k : NoticeKind) (p : List Byte) (s : State) : Works s (raise k p s) := by
  obtain ⟨q, hq⟩ := raise_spec k p s
  rw [hq]; exact .same rfl

theorem works_raiseRun (s : State) : Works s (raiseRun s) := works_raise _ _ s

theorem works_raisePrinter (s : State) : Works s (raisePrinter s) := works_raise _ _ s

theorem works_addHold (r : HoldReason) (s : State) : Works s (addHold r s) := by
  obtain ⟨q, hq⟩ := addHold_spec r s
  rw [hq]; exact .same rfl

theorem works_addStriking (r : HoldReason) (s : State) : Works s (addStriking r s) := by
  obtain ⟨q, hq⟩ := addStriking_spec r s
  rw [hq]; exact .same rfl

/-- A release may close the gate (R29). -/
theorem works_releaseWindow (o : Owner) (s : State) : Works s (releaseWindow o s) := by
  have hclosed (s : State) : Works s (s.closedFor o) := by
    refine ⟨⟨rfl, id, fun hg => ?_, id⟩, id, .inl⟩
    cases hw : s.msu.window with
    | none => simp [State.closedFor, Msu.gateOpen, hw] at hg
    | some w => simp [Msu.gateOpen, hw]
  obtain ⟨-, h⟩ | h := releaseWindow_cases o s <;> rw [h]
  · exact (hclosed _).after (.same rfl)
  · exact hclosed s

/-- The source goes off and nothing else moves (R135). -/
theorem works_enterDischarge (s : State) : Works s (enterDischarge s) :=
  ⟨⟨rfl, nofun, id, id⟩, fun _ => .of_off rfl, .inl⟩

theorem works_removeHv (s : State) : Works s (removeHv s) := (works_enterDischarge s).trans (.same rfl)

theorem works_refuseWaiting (c : HvCause) (s : State) : Works s (refuseWaiting c s) := by
  unfold refuseWaiting
  split
  · exact .same rfl
  · exact .refl s

/-- A disable request, whatever it answers, leaves the source off (R137). -/
theorem works_disable {w : Waiter} {s t : State} {a : BusAnswer} (h : disable w s = (a, t)) :
    Works s t ∧ t.hvc.sourceOn = false := by
  unfold disable at h
  extract_lets join at h
  split at h
  case h_1 hs =>
    split at h
    · cases h; exact ⟨.refl s, by simp [Hvc.sourceOn, hs]⟩
    · split at h
      · cases h; exact ⟨.refl s, by simp [Hvc.sourceOn, hs]⟩
      · cases h; exact ⟨(works_enterDischarge s).trans (.same rfl), rfl⟩
  case h_4 hs => cases h; exact ⟨.same rfl, by simp [Hvc.sourceOn, join, hs]⟩
  all_goals cases h; exact ⟨(works_removeHv s).trans (.same rfl), rfl⟩

/-! ### The run controller and the log -/

theorem works_stopEngine (s : State) : Works s (stopEngine s) :=
  Works.trans ((works_releaseWindow .cte s).trans (works_releaseWindow .wte _)) (.same rfl)

/-- The abort of a run's batches may end a batch, and moves none (R21). -/
theorem works_abortBatches (s : State) : Works s (abortBatches s) := by
  unfold abortBatches
  extract_lets _ s1
  have h1 : Works s s1 := .same rfl
  split
  · exact h1
  · rename_i b hb
    refine .ite h1 (.ite ⟨⟨rfl, id, id, nofun⟩, id, .inl⟩ (h1.trans (.same ?_)))
    simp only [State.hvView, State.moving, hb]

theorem works_continueRun (s : State) : Works s (continueRun s) := by
  unfold continueRun
  extract_lets _ s1
  have h1 : Works s s1 := (works_raiseRun _).after (.of_live rfl rfl rfl (.inl rfl) id)
  exact .ite (h1.trans (.same rfl)) h1

theorem works_removeHold (rs : List HoldReason) (s : State) : Works s (removeHold rs s) := by
  unfold removeHold
  extract_lets h _ s1
  have h1 : Works s s1 := (works_raiseRun _).after (.same rfl)
  exact .ite (.refl s) (.ite (h1.trans (works_continueRun _)) h1)

theorem works_enterHeld (s : State) : Works s (enterHeld s) :=
  (works_raiseRun _).after (.of_live rfl rfl rfl (.inr rfl) id)

/-- ENDING is entered with the source off, and on a safe bus or by R104. -/
theorem works_enterEnding {s : State} (hoff : s.hvc.sourceOn = false) (hm : s.mayEnd) : Works s (enterEnding s) := by
  obtain ⟨q, hq⟩ := enterEnding_eq s
  rw [hq]
  exact ⟨⟨rfl, id, id, id⟩, fun _ => .of_off hoff, fun _ => .inr hm⟩

/-- A closing-out run's verdict overridden, the source off (R104). -/
theorem works_overrideFault {s : State} (hoff : s.hvc.sourceOn = false) : Works s (overrideFault s) :=
  ⟨⟨rfl, id, id, id⟩, fun _ => .of_off hoff, .inl⟩

/-- Up to the discharge, the end cause puts voltage, gate and matrix to rest (R101). -/
theorem rests_endCause (v : Verdict) (why : EndReason) (s : State) : Rests s (endCause v why s) := by
  unfold endCause
  extract_lets _ s1 _ s2 _ s3 s4
  have h1 : Rests s s1 := ⟨rfl, id, id, id⟩
  have h2 : Rests s s2 := by
    unfold s2
    split
    · exact h1
    · exact (works_raiseRun _).toRests.after (h1.trans ⟨rfl, id, id, id⟩)
  have h3 : Rests s s3 := by
    unfold s3
    split
    · exact (works_raiseRun _).toRests.after (h2.trans ⟨rfl, id, id, id⟩)
    · exact h2
  have h4 : Rests s s4 := (works_abortBatches _).toRests.after ((works_stopEngine _).toRests.after
    (h3.trans ⟨rfl, id, id, id⟩))
  split
  · exact ⟨rfl, id, id, id⟩
  · have henter (t : State) : Rests t (enterEnding t) := by
      obtain ⟨q, hq⟩ := enterEnding_eq t
      rw [hq]; exact ⟨rfl, id, id, id⟩
    split <;> rename_i t ht <;> have h5 := h4.trans (works_disable ht).1.toRests
    · exact h5.trans (henter t)
    · exact (henter _).after (h5.trans ⟨rfl, id, id, id⟩)
    · exact h5

/-- After its end cause a run has the source off, and it is in ENDING only on a safe bus or by R104. -/
theorem endCause_off {s : State} (v : Verdict) (why : EndReason) (hlive : s.live = true) :
    (endCause v why s).hvc.sourceOn = false ∧ ((endCause v why s).rnc.state = .ending → s.mayEnd) := by
  obtain ⟨m, ws, b, q, heq, -, -⟩ := endCause_closes v why hlive
  rw [heq]
  have henter (t : State) : (enterEnding t).hvc = t.hvc := by
    obtain ⟨q, hq⟩ := enterEnding_eq t
    rw [hq]
  rcases disable_spec .rnc (s.closingOut v why m ws b q) with ⟨hd, hoff, hbus⟩ | ⟨hd, hoff, -, hlatch⟩ |
    ⟨t, hd, hdis, -, -, -, -, hrnc, -⟩ <;> rw [hd]
  · exact ⟨by simp [closeWith, henter, Hvc.sourceOn, hoff], fun _ => .inl hbus⟩
  · exact ⟨by simp [closeWith, henter, overrideFault, Hvc.sourceOn, hoff], fun _ => .inr hlatch⟩
  · refine ⟨by simp [closeWith, Hvc.sourceOn, hdis], fun he => ?_⟩
    have hrun : t.rnc.state = .running := by rw [hrnc]; rfl
    exact absurd (hrun.symm.trans he) (by decide)

theorem works_endCause (v : Verdict) (why : EndReason) (s : State) : Works s (endCause v why s) := by
  cases hlive : s.live with
  | false =>
    have hno : endCause v why s = s := if_pos (by simp [hlive])
    rw [hno]; exact .refl s
  | true =>
    obtain ⟨hoff, hend⟩ := endCause_off v why hlive
    exact ⟨rests_endCause v why s, fun _ => .of_off hoff, fun he => .inr (hend he)⟩

theorem works_completeRun (s : State) : Works s (completeRun s) := works_endCause _ _ s

theorem works_putRecord (d : Draft) (s : State) : Works s (putRecord d s) := by
  unfold putRecord
  extract_lets t
  have ht : Works s t := .same rfl
  rcases enterLog_spec (makeRec d t.rnc.total s) t with ⟨-, h⟩ | ⟨-, -, -, h⟩ | ⟨-, -, h⟩ <;> rw [h] <;>
    exact ht.trans (.same rfl)

theorem works_createRecord (d : Draft) (s : State) : Works s (createRecord d s) := by
  unfold createRecord
  extract_lets t act
  have ht : Works s t := works_putRecord d s
  refine .ite (.refl s) (.ite (.ite (ht.trans (works_endCause _ _ _)) (ht.trans (works_endCause _ _ _))) ?_)
  cases act
  · exact ht
  · exact ht.trans (works_addHold _ _)
  · exact ht.trans (works_endCause _ _ _)

theorem works_createOwn (ds : List Draft) (s : State) : Works s (createOwn ds s) := by
  induction ds generalizing s with
  | nil => exact .refl s
  | cons d ds ih => exact .ite (.refl s) ((works_putRecord d s).trans (ih _))

theorem works_createRecords (ds : List Draft) (s : State) : Works s (createRecords ds s) :=
  createRecords_keeps (P := Works s) (fun d _ h => h.trans (works_createRecord d _)) ds s (.refl s)

theorem works_boundaryChecks (k : UnitKind) (s : State) : Works s (boundaryChecks k s) := by
  unfold boundaryChecks
  extract_lets s1 s2 s3
  have h1 : Works s s1 := .ite (works_addHold _ s) (.refl s)
  have h2 : Works s s2 := .ite (h1.trans (works_addHold _ _)) h1
  have h3 : Works s s3 := .ite h2 (h2.trans (works_addHold _ _))
  exact .ite h1 (.ite (h3.trans (works_addHold _ _)) h3)

theorem works_permit (k : UnitKind) (s : State) : Works s (permit k s).2 := by
  unfold permit
  extract_lets _ _ s1 _ s2
  have h1 : Works s s1 := .same rfl
  have h2 : Works s s2 := h1.trans (works_boundaryChecks k s1)
  split
  · exact h1
  · split
    · exact h1.trans (.same rfl)
    · split
      · exact h2.trans (.same rfl)
      · exact (works_enterHeld _).after (h2.trans (.same rfl))

theorem works_heldAtEnd (s : State) : Works s (heldAtEnd s) := by
  rcases heldAtEnd_spec s with ⟨-, h⟩ | ⟨-, -, ⟨-, q, h⟩ | ⟨-, h⟩⟩ <;> rw [h]
  · exact .refl s
  · exact .of_live rfl rfl rfl (.inr rfl) id
  · exact .same rfl

theorem works_sweep (s : State) : Works s (sweep s) := by
  unfold sweep
  extract_lets keep _ s1 _ s2
  have h1 : Works s s1 := .same rfl
  have h2 : Works s s2 := by
    unfold s2
    split
    · exact .ite (h1.trans (.same rfl)) h1
    · exact h1
  exact .ite (.refl s) (.ite (h2.trans (works_removeHold _ _)) h2)

theorem works_clearPrintMarks (s : State) : Works s (clearPrintMarks s) := (works_sweep _).after (.same rfl)

end Sys2Proof.Machine
end

section
/-! PROOFS. The acts of the engines, PROBE and the ends of windows are such work. -/

namespace Sys2Proof.Machine

/-! ### The group search -/

theorem works_searchTake (s : State) : Works s (searchTake s) := by
  unfold searchTake
  split <;> exact .same rfl

theorem works_searchStart (c : Caller) (cands driven : List Nat) (s : State) :
    Works s (searchStart c cands driven s) :=
  .ite (.same rfl) (.ite (.same rfl) ((works_searchTake _).after (.same rfl)))

theorem works_searchSettled (ok noDrive : Bool) (s : State) : Works s (searchSettled ok noDrive s) :=
  .ite (.refl s) (.ite (.same rfl) (.ite (.same rfl) (.same rfl)))

theorem works_searchAnswer (a : Answer3) (s : State) : Works s (searchAnswer a s) := by
  unfold searchAnswer
  split
  · cases a with
    | negative => exact (works_searchTake _).after (.same rfl)
    | positive m => exact .ite (.same rfl) ((works_searchTake _).after (.same rfl))
    | notMeasured => exact .same rfl
    | abandon => exact .same rfl
  · exact .refl s

/-! ### Steps, and what an engine decides -/

theorem works_reportUntest (p : Nat) (s : State) : Works s (reportUntest p s) := by
  have hreport : Works s (report p s) := by
    unfold report
    repeat' split
    all_goals exact .same rfl
  exact .ite (.refl s) (hreport.trans (works_createRecord _ _))

theorem works_startStep (s : State) : Works s (startStep s) := by
  unfold startStep
  split
  case h_4 => exact works_completeRun s
  all_goals exact .same rfl

theorem works_stepDone (s : State) : Works s (stepDone s) :=
  .ite ((works_startStep _).after (.same rfl)) ((works_completeRun _).after (.same rfl))

theorem works_contNextNet (j : ContJob) (s : State) : Works s (contNextNet j s) := by
  unfold contNextNet
  split
  · exact .same rfl
  · exact works_stepDone s

theorem works_contDecide (j : ContJob) (s : State) : Works s (contDecide j s) := by
  unfold contDecide
  extract_lets ms us
  split
  · exact .ite (works_stepDone s) (.ite (.same rfl) (.same rfl))
  · split
    · exact .same rfl
    · exact .ite ((works_searchStart _ _ _ _).after (.same rfl)) (works_contNextNet j s)
  · exact works_contNextNet j s
  · exact .same rfl
  · exact works_contNextNet j s

theorem works_cteDecide (s : State) : Works s (cteDecide s) := by
  unfold cteDecide zeroDecide learnDecide
  split
  · exact .refl s
  · exact works_contDecide _ s
  · split
    · exact .same rfl
    · exact (works_completeRun _).after (.same rfl)
  · split
    · exact (works_searchStart _ _ _ _).after (.same rfl)
    · exact (works_completeRun _).after (.same rfl)

theorem works_insulNextNet (j : InsulJob) (s : State) : Works s (insulNextNet j s) := by
  unfold insulNextNet
  split
  · exact .same rfl
  · exact works_stepDone s

theorem works_insulDecide (j : InsulJob) (s : State) : Works s (insulDecide j s) := by
  unfold insulDecide
  split
  · exact .ite (works_stepDone s) (.ite (works_insulNextNet j s) (.ite (.same rfl) (.same rfl)))
  · exact works_insulNextNet j s
  all_goals exact .same rfl

theorem works_watchDecide (j : WatchJob) (s : State) : Works s (watchDecide j s) := by
  have hclosing : Works s (beginClosing j s) := (works_releaseWindow .wte s).trans (.same rfl)
  unfold watchDecide
  split
  · refine .ite hclosing ?_
    split
    · exact hclosing
    · extract_lets j' p usable s1
      have h1 : Works s s1 := .ite (.refl s) (works_releaseWindow .wte s)
      exact h1.trans (.same rfl)
  · split
    · refine (works_stepDone _).after ?_
      split
      · exact .same rfl
      · exact .refl s
    · exact .same rfl

theorem works_engineDecide (s : State) : Works s (engineDecide s) := by
  unfold engineDecide
  split
  · exact works_insulDecide _ s
  · exact works_watchDecide _ s
  · exact works_cteDecide s

/-! ### Permits -/

/-- GRANT asks for a batch, or names the next acts. -/
theorem works_granted (s : State) : Works s (granted s) := by
  unfold granted insulGranted watchGranted cteGranted contGranted searchProceed
  repeat' split
  all_goals exact .same rfl

theorem works_parked (s : State) : Works s (parked s) := by
  unfold parked insulParked watchParked cteParked searchPark
  split
  case h_2 => exact (works_releaseWindow .wte s).trans (.same rfl)
  all_goals
    repeat' split
    all_goals exact .same rfl

theorem works_askPermit (s : State) : Works s (askPermit s) := by
  have hp : Works s (permit (askKind s) (heldAtEnd s)).2 := (works_heldAtEnd s).trans (works_permit _ _)
  unfold askPermit
  split <;> rename_i t ht <;> rw [ht] at hp
  · exact hp.trans (works_granted t)
  · exact hp.trans (works_parked t)
  · exact hp.trans (works_stopEngine t)

/-! ### What the engines make of their events -/

theorem works_engineWindow (s : State) : Works s (engineWindow s) := by
  unfold engineWindow cteWindow
  repeat' split
  all_goals exact .same rfl

theorem works_zeroSettled (refLost pointLost : Bool) (j : ZeroJob) (s : State) :
    Works s (zeroSettled refLost pointLost j s) :=
  .ite (works_completeRun s) (.ite (.same rfl) (.same rfl))

theorem works_cteFound (q : Nat) (m : Meas) (s : State) : Works s (cteFound q m s) := by
  unfold cteFound learnFound
  split
  · exact .same rfl
  · split
    · exact .same rfl
    · exact .ite (.same rfl) (works_endCause _ _ s)
  · exact .refl s

theorem works_cteSearchEnded (s : State) : Works s (cteSearchEnded s) := by
  unfold cteSearchEnded
  split
  · exact works_contNextNet _ s
  · exact .same rfl
  · exact .refl s

theorem works_iseEnergise (s : State) : Works s (iseEnergise s) := by
  unfold iseEnergise hvRequest
  repeat' split
  all_goals exact .same rfl

theorem works_insulSettled (j : InsulJob) (s : State) : Works s (insulSettled j s) := by
  unfold insulSettled
  split
  · exact .same rfl
  · exact works_insulNextNet j s

theorem works_insulSafe (j : InsulJob) (s : State) : Works s (insulSafe j s) := by
  have hlocalise : Works s (startLocalise j s) := .ite (.same rfl) ((works_searchStart _ _ _ _).after (.same rfl))
  unfold insulSafe
  split
  · exact .same rfl
  · split
    · exact .same rfl
    · exact .ite hlocalise (works_insulNextNet j s)
    · exact works_insulNextNet j s
  · exact .refl s

theorem works_insulRefused (j : InsulJob) (s : State) : Works s (insulRefused j s) := by
  unfold insulRefused
  split <;> exact .same rfl

theorem works_watchSettled (bad : Bool) (j : WatchJob) (s : State) : Works s (watchSettled bad j s) :=
  .ite ((works_releaseWindow .wte s).trans (.same rfl)) (.ite (.same rfl) (.same rfl))

theorem works_pairUntest (j : WatchJob) (s : State) : Works s (pairUntest j s) :=
  (works_createRecord _ _).after (Works.trans (works_releaseWindow .wte s) (.same rfl))

/-- No act of an engine raises voltage, opens the gate or moves the matrix; one that ends the run leaves the source off. -/
theorem works_runAct (a : Act) (s : State) : Works s (runAct a s) := by
  cases a with
  | decide => exact works_engineDecide s
  | ask => exact works_askPermit s
  | record d => exact works_createRecord d s
  | untest p => exact works_reportUntest p s
  | pairUntest => dsimp only [runAct]; split; exacts [works_pairUntest _ s, .refl s]
  | window => exact works_engineWindow s
  | energise => exact works_iseEnergise s
  | pairSettled al ml =>
    dsimp only [runAct]
    split
    · exact .ite (.ite (.same rfl) (.same rfl)) (.ite (.same rfl) (.same rfl))
    · exact .refl s
  | zeroSettled rl pl => dsimp only [runAct]; split; exacts [works_zeroSettled _ _ _ s, .refl s]
  | watchAdvance => dsimp only [runAct]; split; exacts [.same rfl, .refl s]
  | watchSettled bad => dsimp only [runAct]; split; exacts [works_watchSettled _ _ s, .refl s]
  | insulSettled => dsimp only [runAct]; split; exacts [works_insulSettled _ s, .refl s]
  | searchSettled ok nd => exact works_searchSettled _ _ s
  | searchNext => exact works_searchTake s
  | searchAnswer ans => exact works_searchAnswer _ s
  | found q pos m => dsimp only [runAct]; split; exacts [.same rfl, works_cteFound _ _ s]
  | searchEnded e n =>
    dsimp only [runAct]
    split
    · exact .ite (.same rfl) (works_insulNextNet _ s)
    · exact works_cteSearchEnded s
  | insulSafe => dsimp only [runAct]; split; exacts [works_insulSafe _ s, .refl s]
  | insulRefused c => dsimp only [runAct]; split; exacts [works_insulRefused _ s, .refl s]

theorem works_pump (n : Nat) (s : State) : Works s (pump n s) :=
  pump_keeps (P := Works s) (fun a _ _ _ h => (works_runAct a _).after (h.trans (.same rfl))) n s (.refl s)

/-! ### PROBE, and the ends of windows -/

theorem works_probeOff (p : Probe) (s : State) : Works s (probeOff p s) :=
  Works.trans ((works_releaseWindow .probe { s with probe := some p }).after (.same rfl)) (.same rfl)

theorem works_probeSettled (res : BatchResult) (excl : List Excl) (s : State) : Works s (probeSettled res excl s) := by
  unfold probeSettled
  split
  · exact .refl s
  · cases res
    · exact .ite (works_probeOff _ s) (.same rfl)
    all_goals exact works_probeOff _ s

theorem works_windowLost (o : Owner) (s : State) : Works s (windowLost o s) := by
  cases o with
  | probe =>
    dsimp only [windowLost, probeWindowLost]
    split
    · exact .refl s
    · exact works_probeOff _ s
  | _ =>
    dsimp only [windowLost, cteWindowLost, wteWindowLost]
    repeat' split
    all_goals exact .same rfl

/-- The gate forced shut is shut (R33). -/
theorem works_closeGate (s : State) : Works s (closeGate s) ∧ (closeGate s).msu.gateOpen = false := by
  unfold closeGate
  split
  · have hlost := works_windowLost ‹Window›.owner { s with msu.window := none }
    exact ⟨hlost.after ⟨⟨rfl, id, nofun, id⟩, id, .inl⟩, Bool.eq_false_iff.mpr fun h => nomatch hlost.gate h⟩
  · exact ⟨.refl s, by simp [Msu.gateOpen, *]⟩

theorem works_windowUnsafe (s : State) : Works s (windowUnsafe s) := by
  unfold windowUnsafe
  split
  · exact .same rfl
  · exact (works_windowLost _ _).after (.same rfl)

/-! ### Samples and insulation readings -/

/-- A window that changes range or samples is open as before (R31). -/
theorem works_mapWindow (f : Window → Window) (r : CRange) (s : State) :
    Works s { s with msu.contRange := r, msu.window := s.msu.window.map f } :=
  .same (by simp [State.hvView, Msu.gateOpen, State.moving])

theorem works_groupSample (f : Filter) (threshold n : Nat) (r : Option Nat) (store : Filter → State → State) (s : State)
    (hstore : ∀ g t, Works t (store g t)) : Works s (groupSample f threshold n r store s) := by
  unfold groupSample
  refine .ite (.refl s) ?_
  split
  rename_i g ans _
  cases ans with
  | none => exact hstore g s
  | some a => exact Works.trans ((works_releaseWindow .cte _).after (hstore g s)) (.same rfl)

theorem works_zeroVerdict (v : Option SampleClass) (r : Option Nat) (m : Meas) (j : ZeroJob) (s : State) :
    Works s (zeroVerdict v r m j s) := by
  unfold zeroVerdict
  split <;> exact .same rfl

theorem works_cteSample (r : Option Nat) (s : State) : Works s (cteSample r s) := by
  unfold cteSample
  extract_lets range
  split
  · exact .refl s
  · refine .ite (works_groupSample _ _ _ _ _ _ fun _ _ => .same rfl) (.ite (.refl s) ?_)
    split
    · exact (works_mapWindow _ _ _).after (.same rfl)
    · extract_lets f j'
      split
      · exact (works_releaseWindow _ s).trans (.same rfl)
      · exact (works_releaseWindow _ s).trans (.same rfl)
      · exact .same rfl
  · refine .ite (.refl s) ?_
    extract_lets f j'
    split
    · exact (works_zeroVerdict _ _ _ _ _).after (works_releaseWindow _ s)
    · exact (works_zeroVerdict _ _ _ _ _).after (works_releaseWindow _ s)
    · exact .same rfl
  · exact works_groupSample _ _ _ _ _ _ fun _ _ => .same rfl

theorem works_wteSample (r : Option Nat) (s : State) : Works s (wteSample r s) := by
  unfold wteSample
  split
  · refine .ite (.refl s) ?_
    extract_lets old
    split
    extract_lets j1 j2 keep s1 acts
    have h1 : Works s s1 := .ite (.refl s) (works_releaseWindow .wte s)
    exact h1.trans (.same rfl)
  · exact .refl s

theorem works_probeSample (r : Option Nat) (raw : Word16) (s : State) : Works s (probeSample r raw s) := by
  unfold probeSample
  split
  · exact .refl s
  · extract_lets range
    split
    · exact works_mapWindow _ _ s
    · exact works_probeOff _ s

theorem works_sampleIn (raw : Word16) (s : State) : Works s (sampleIn raw s) := by
  unfold sampleIn
  split
  · refine .ite ?_ (.refl s)
    extract_lets r
    split
    · exact works_cteSample r s
    · exact works_wteSample r s
    · exact works_probeSample r raw s
  · exact .refl s

theorem works_fixLowIr (m : Meas) (j : InsulJob) (s : State) : Works s (fixLowIr m j s) :=
  Works.trans ((works_enterDischarge _).after (.same rfl)) (.same rfl)

theorem works_fixPass (j : InsulJob) (s : State) : Works s (fixPass j s) := (works_enterDischarge _).after (.same rfl)

/-- In RAMP the source is on already as the ISE answers CONTINUE (R143). -/
theorem works_rampReading (v : Nat) (rd : Reading) (j : InsulJob) {s : State} (hramp : s.hvc.state = .ramp) :
    Works s (rampReading v rd j s) := by
  have hon : s.hvc.sourceOn = true := by simp [Hvc.sourceOn, hramp]
  unfold rampReading
  refine .ite ⟨⟨rfl, fun _ => hon, id, id⟩, fun hs hc => absurd (hon.symm.trans (hs hc)) nofun, .inl⟩ ?_
  cases rd
  · exact .same rfl
  · exact (works_fixLowIr _ j _).after (.same rfl)

theorem works_insulationIn (leak hvm : Word16) (s : State) : Works s (insulationIn leak hvm s) := by
  unfold insulationIn insulReadingIn dwellReading
  refine .ite ?_ (.refl s)
  split
  extract_lets _ s1
  have h1 : Works s s1 := .same rfl
  split
  · refine h1.trans (.ite (.refl s1) ?_)
    split
    · exact .ite (works_rampReading _ _ _ ‹_›) (.refl s1)
    · split
      · exact works_fixLowIr _ _ s1
      · exact .ite (works_fixPass _ s1) (.same rfl)
    · exact .refl s1
  · exact h1

end Sys2Proof.Machine
end

section
/-! PROOFS. The print engine, the stream and the host's requests but HV-RELEASE and the resets are such work too. -/

namespace Sys2Proof.Machine

/-! ### The print engine -/

theorem works_setPre (st : PreState) (s : State) : Works s (setPre st s) :=
  .ite (.refl s) ((works_raisePrinter _).after (.same rfl))

theorem works_disableNow (s : State) : Works s (disableNow s) := by
  unfold disableNow
  extract_lets _ s1
  have h1 : Works s s1 := (works_clearPrintMarks _).after (.same rfl)
  exact (works_setPre .disabled _).after (h1.trans (.same rfl))

theorem works_haltedOr (st : PreState) (s : State) : Works s (haltedOr st s) := by
  unfold haltedOr
  extract_lets _ s1
  have h1 : Works s s1 := (works_setPre st _).after (.same rfl)
  exact .ite (h1.trans (works_disableNow _)) h1

theorem works_boundary (s : State) : Works s (boundary s) := by
  unfold boundary
  repeat' split
  · exact .refl s
  · exact works_haltedOr _ s
  · exact (works_setPre _ _).after (.same rfl)
  · exact (works_setPre _ s).trans (.same rfl)
  · exact .refl s

theorem works_beginLine (k : LineKind) (slot : Nat) (text : List Byte) (s : State) :
    Works s (beginLine k slot text s) :=
  (works_boundary _).after ((works_setPre .printing _).after (.same rfl))

theorem works_decidePrint (s : State) : Works s (decidePrint s) := by
  unfold decidePrint
  split
  · exact works_setPre _ s
  · refine .ite (works_beginLine _ _ _ s) ?_
    split
    · exact .ite ((works_beginLine _ _ _ _).after (.same rfl)) ((works_beginLine _ _ _ _).after (.same rfl))
    · split
      · exact .ite (works_beginLine _ _ _ s) (works_setPre _ s)
      · exact works_setPre _ s

theorem works_wakePrint (s : State) : Works s (wakePrint s) := .ite (works_decidePrint s) (.refl s)

theorem works_headerDone (s : State) : Works s (headerDone s) := (works_decidePrint _).after (.same rfl)

theorem works_printTaken (s : State) : Works s (printTaken s) := (works_sweep _).after (.same rfl)

theorem works_afterLine (k : LineKind) (s : State) : Works s (afterLine k s) := by
  unfold afterLine
  split
  · exact works_setPre _ s
  · split
    · exact .ite (works_beginLine _ _ _ s) (.ite (works_beginLine _ _ _ s) (works_headerDone s))
    · exact .ite (works_beginLine _ _ _ s) (works_headerDone s)
    · exact works_headerDone s
    · split
      · exact (works_beginLine _ _ _ _).after (.same rfl)
      · exact works_decidePrint s
    · exact (works_printTaken s).trans (works_decidePrint _)
    · split
      · exact works_beginLine _ _ _ s
      · exact (works_decidePrint _).after (.same rfl)
    · exact works_setPre _ s

theorem works_lineEnded (l : Line) (s : State) : Works s (lineEnded l s) := by
  unfold lineEnded
  extract_lets _ s1
  have h1 : Works s s1 := .same rfl
  exact .ite ((works_disableNow _).after (h1.trans (.ite (works_printTaken s1) (.refl s1))))
    (h1.trans (works_afterLine _ s1))

theorem works_cancelPrint (s : State) : Works s (cancelPrint s) := by
  have hdone (t : State) : Works t (cancelDone t) :=
    .ite (works_disableNow t) ((works_setPre .idle _).after (.same rfl))
  unfold cancelPrint
  extract_lets _ s1 _ s2
  have h1 : Works s s1 := (works_clearPrintMarks _).after (.same rfl)
  have h2 : Works s s2 := h1.trans (.same rfl)
  split
  · exact h2.trans (hdone _)
  · exact .ite (.ite (h2.trans (hdone _)) h2) (.ite (h2.trans (.same rfl)) (h2.trans (hdone _)))

theorem works_setEnable (on : Bool) (s : State) : Works s (setEnable on s) := by
  unfold setEnable
  split
  · exact (works_setPre _ _).after (.same rfl)
  · exact .same rfl
  · exact .refl s
  · exact .same rfl
  · exact works_disableNow s

/-! ### The printer's inputs, the stream and the transmitter -/

theorem works_charGone (busy : Bool) (s : State) : Works s (charGone busy s) := by
  unfold charGone
  extract_lets _ s1 _ s2
  have h2 : Works s s2 := .same rfl
  split
  · exact .same rfl
  · split
    · exact h2
    · exact .ite (h2.trans (works_lineEnded _ _)) (h2.trans (works_boundary _))

theorem works_paperChanged (present busy : Bool) (s : State) : Works s (paperChanged present busy s) := by
  unfold paperChanged
  extract_lets _ s1
  have h1 : Works s s1 := .same rfl
  exact .ite (.ite (.ite (h1.trans (works_boundary _)) h1) (.ite (h1.trans (works_haltedOr _ _)) h1)) h1

theorem works_busyFell (s : State) : Works s (busyFell s) := by
  unfold busyFell
  extract_lets _ s1
  have h1 : Works s s1 := .same rfl
  exact .ite (h1.trans (works_boundary _)) h1

theorem works_busyOut (s : State) : Works s (busyOut s) := .ite (works_haltedOr _ s) (.refl s)

theorem works_streamFill (s : State) : Works s (streamFill s) := by
  have hone (s : State) : Works s (streamOne s) := by
    unfold streamOne
    refine .ite ?_ (.refl s)
    split
    · exact .same rfl
    · exact .refl s
  exact ((hone s).trans (hone _)).trans (hone _)

theorem works_transmit (s : State) : Works s (transmit s) := by
  obtain ⟨f, hf⟩ := transmit_flk s
  rw [hf]; exact .same rfl

theorem works_frameGone (s : State) : Works s (frameGone s) := by
  unfold frameGone
  split
  · exact .refl s
  · extract_lets _ s1 _ s2
    have h1 : Works s s1 := .same rfl
    have h2 : Works s s2 := .ite ((works_sweep _).after (h1.trans (.same rfl))) h1
    exact (h2.trans (works_streamFill _)).trans (works_transmit _)

/-! ### The host's requests -/

theorem works_answer (t : Byte) (p : List Byte) (s : State) : Works s (answer t p s) := .same rfl

/-- A start makes the run RUNNING, its end cause open (R95). -/
theorem works_beginRun (k : RunKind) (s : State) : Works s (beginRun k s) := by
  unfold beginRun
  extract_lets _ t1 t2
  have hclaim : t2.hvc = s.hvc ∧ t2.msu = s.msu ∧ t2.moving = s.moving ∧ t2.rnc.verdict = .none := by
    unfold t2
    split <;> exact ⟨rfl, rfl, rfl, rfl⟩
  obtain ⟨hhvc, hmsu, hmoving, hopen⟩ := hclaim
  exact (works_raiseRun _).after (.of_live hhvc hmsu hmoving (.inl rfl) fun hv => absurd hopen hv)

theorem works_doStartPlan (s : State) : Works s (doStartPlan s) := by
  unfold doStartPlan
  split
  · exact .same rfl
  · exact (works_startStep _).after ((works_beginRun .plan s).trans (.same rfl))

theorem works_doStartLearn (r : Word32) (s : State) : Works s (doStartLearn r s) := by
  unfold doStartLearn
  split
  · exact .same rfl
  · exact (works_beginRun .learn s).trans (.same rfl)

theorem works_doStartZero (r lr : Word16) (s : State) : Works s (doStartZero r lr s) := by
  unfold doStartZero
  split
  · exact .same rfl
  · exact (works_beginRun .zero s).trans (.same rfl)

theorem works_doResume (s : State) : Works s (doResume s) :=
  .ite (.ite (.same rfl) ((works_removeHold _ s).trans (.same rfl))) (.same rfl)

theorem works_doDefectTake (s : State) : Works s (doDefectTake s) := by
  unfold doDefectTake
  split
  · exact (works_answer _ _ _).after ((works_sweep _).after (.same rfl))
  · exact .same rfl

theorem works_doPrintSet (enable baud timeout : Byte) (title : List Byte) (s : State) :
    Works s (doPrintSet enable baud timeout title s) := by
  unfold doPrintSet
  split
  · exact .ite (.same rfl) ((works_answer _ _ _).after ((works_setEnable _ _).after (.same rfl)))
  · exact .same rfl

/-- A request that is neither HV-RELEASE nor a reset. -/
theorem works_carryOut {i : Instr} (hv : i ≠ .hvRelease) (ha : i ≠ .resetAll) (hk : i ≠ .resetWork) (s : State) :
    Works s (carryOut i s) := by
  cases i
  case hvRelease => exact absurd rfl hv
  case resetAll => exact absurd rfl ha
  case resetWork => exact absurd rfl hk
  case pointWrite p l r =>
    dsimp only [carryOut, doPointWrite]
    repeat' split
    all_goals exact .same rfl
  case pointRead p => exact .ite (.same rfl) (.same rfl)
  case netErase all id =>
    dsimp only [carryOut, doNetErase]
    repeat' split
    all_goals exact .same rfl
  case netWrite id flag pts =>
    dsimp only [carryOut, doNetWrite]
    split <;> exact .same rfl
  case netRead id piece => exact .ite (.same rfl) (.same rfl)
  case calWrite r o g => exact .ite (.same rfl) (.ite (.same rfl) (.same rfl))
  case planErase => exact .ite (.same rfl) (.same rfl)
  case planAdd b =>
    dsimp only [carryOut, doPlanAdd]
    repeat' split
    all_goals exact .same rfl
  case actionsWrite acts limit =>
    dsimp only [carryOut, doActionsWrite]
    repeat' split
    all_goals exact .same rfl
  case startPlan => exact works_doStartPlan s
  case startLearn r => exact works_doStartLearn r s
  case startZero r lr => exact works_doStartZero r lr s
  case pause => exact .ite ((works_addHold .pause s).trans (.same rfl)) (.same rfl)
  case resume => exact works_doResume s
  case abort => exact .ite ((works_endCause _ _ s).trans (.same rfl)) (.same rfl)
  case probe a b r =>
    dsimp only [carryOut, doProbe]
    repeat' split
    all_goals exact .same rfl
  case defectTake => exact works_doDefectTake s
  case streamSet on =>
    dsimp only [carryOut, doStreamSet]
    split <;> exact .same rfl
  case printSet en baud tmo title => exact works_doPrintSet en baud tmo title s
  case printCancel => exact .ite (.same rfl) ((works_cancelPrint s).trans (.same rfl))
  all_goals exact .same rfl

end Sys2Proof.Machine
end

section
/-! PROOFS. The laws of the source, the gate and the matrix at every step: what may open the gate, move the matrix, clear a latch
or enable the source, and that it does so where the laws let it; O59. -/

namespace Sys2Proof.Machine

/-! ### The laws, kept within a command -/

/-- The four laws together (R130, R33, R13, R103). -/
def State.hvLaws (s : State) : Prop := s.sourceLaw ∧ s.gateLaw ∧ s.movingLaw ∧ s.closedLaw

/-- What a part of a command that enables no source and reads no bus does: the laws are kept; the matrix begins to move, and a
run enters ENDING, only as the bus or the latch lets it. -/
structure StaysSafe (s t : State) : Prop where
  laws : s.hvLaws → t.hvLaws
  bus : t.hvc.bus = s.hvc.bus
  source : t.hvc.sourceOn = true → s.hvc.sourceOn = true
  moving : t.moving = true → s.moving = true ∨ s.hvc.bus ≤ 30000
  latch : t.rnc.state = .ending → s.mayEnd → t.mayEnd
  ending : t.rnc.state = .ending → s.rnc.state = .ending ∨ t.mayEnd

theorem StaysSafe.trans {s t u : State} (h : StaysSafe s t) (g : StaysSafe t u) : StaysSafe s u where
  laws := g.laws ∘ h.laws
  bus := g.bus.trans h.bus
  source := h.source ∘ g.source
  moving := fun hu => (g.moving hu).elim h.moving fun hb => .inr (h.bus ▸ hb)
  latch := fun hu hs => (g.ending hu).elim (fun ht => g.latch hu (h.latch ht hs)) id
  ending := fun hu => (g.ending hu).elim (fun ht => (h.ending ht).imp_right (g.latch hu)) .inr

theorem StaysSafe.after {s t u : State} (g : StaysSafe t u) (h : StaysSafe s t) : StaysSafe s u := h.trans g

theorem Msu.gateOpen_eq_false {m : Msu} : m.gateOpen = false ↔ m.window = none := by simp [Msu.gateOpen]

theorem Hvc.sourceOn_off {h : Hvc} (hs : h.state = .off) : h.sourceOn = false := by simp [Hvc.sourceOn, hs]

/-- The laws are kept where the source, the gate and the matrix are put to rest. -/
theorem Rests.laws {s t : State} (h : Rests s t) (hc : s.closedLaw → t.closedLaw) (hs : s.hvLaws) : t.hvLaws := by
  obtain ⟨hsource, hgate, hmoving, hclosed⟩ := hs
  have hin := h.inputs
  simp only [Hvc.inputs, Prod.mk.injEq] at hin
  obtain ⟨hguard, htrip, hdisch, hlink, -, -⟩ := hin
  have hoff (ho : s.hvc.sourceOn = false) : t.hvc.sourceOn = false :=
    Bool.eq_false_iff.mpr fun ht => Bool.eq_false_iff.mp ho (h.source ht)
  refine ⟨fun ht => ?_, fun ht => hoff (hgate (h.gate ht)), fun ht => ?_, hc hclosed⟩
  · rw [hguard, htrip, hdisch, hlink]
    exact hsource (h.source ht)
  · obtain ⟨hwin, ho⟩ := hmoving (h.moving ht)
    refine ⟨Msu.gateOpen_eq_false.mp (Bool.eq_false_iff.mpr fun hg => ?_), hoff ho⟩
    exact Bool.eq_false_iff.mp (Msu.gateOpen_eq_false.mpr hwin) (h.gate hg)

theorem Works.safe {s t : State} (h : Works s t) : StaysSafe s t where
  laws := h.toRests.laws h.closed
  bus := by
    have hin := h.inputs
    simp only [Hvc.inputs, Prod.mk.injEq] at hin
    exact hin.2.2.2.2.1
  source := h.source
  moving := .inl ∘ h.moving
  latch := fun _ => h.mayEnd.mpr
  ending := fun ht => (h.ending ht).imp_right h.mayEnd.mpr

theorem StaysSafe.refl (s : State) : StaysSafe s s := (Works.refl s).safe

theorem StaysSafe.ite {s a b : State} {c : Prop} [Decidable c] (ha : StaysSafe s a) (hb : StaysSafe s b) :
    StaysSafe s (if c then a else b) := by split <;> assumption

/-- With the source off at its end, an operation may set latches and the guard (R130). -/
theorem StaysSafe.of_off {s t : State} (hoff : t.hvc.sourceOn = false) (hbus : t.hvc.bus = s.hvc.bus)
    (hgate : t.msu.window = s.msu.window) (hmove : t.moving = s.moving) (hrun : t.rnc.state = s.rnc.state)
    (hlatch : s.hvc.dischLatch = true → t.hvc.dischLatch = true) : StaysSafe s t where
  laws := fun ⟨_, _, hmoving, _⟩ => ⟨fun h => absurd (h.symm.trans hoff) nofun, fun _ => hoff,
    fun h => ⟨hgate.trans (hmoving (hmove ▸ h)).1, hoff⟩, .of_off hoff⟩
  bus := hbus
  source := fun h => absurd (h.symm.trans hoff) nofun
  moving := fun h => .inl (hmove ▸ h)
  latch := fun _ => Or.imp (hbus ▸ ·) hlatch
  ending := fun h => .inl (hrun ▸ h)

/-! ### The matrix and its batches -/

/-- The matrix moves already, or may begin to: the gate shut, the source off and the bus safe (R12, R13). -/
def State.mayMove (s : State) : Prop :=
  s.moving = true ∨ (s.msu.window = none ∧ s.hvc.sourceOn = false ∧ s.hvc.bus ≤ 30000)

/-- A batch whose precondition is met, or that waits for the bus (R13). -/
theorem safe_setBatch {b : Batch} {s : State} (h : b.phase = .busWait ∨ s.mayMove) : StaysSafe s (setBatch b s) where
  laws := fun ⟨hsource, hgate, hmoving, hclosed⟩ => by
    refine ⟨hsource, hgate, fun hm => ?_, hclosed⟩
    obtain hp | hs | ⟨hwin, hoff, -⟩ := h
    · simp [State.moving, setBatch, hp] at hm
    · exact hmoving hs
    · exact ⟨hwin, hoff⟩
  bus := rfl
  source := id
  moving := fun hm => by
    obtain hp | hs | ⟨-, -, hbus⟩ := h
    · simp [State.moving, setBatch, hp] at hm
    · exact .inl hs
    · exact .inr hbus
  latch := fun _ => id
  ending := .inl

theorem works_resetComplete (s : State) : Works s (resetComplete s) := by
  unfold resetComplete
  split
  · exact .refl s
  · extract_lets s1 byRequest s2 _ s3
    have h2 : Works s s2 := by
      unfold s2
      split <;> exact .same rfl
    have h3 : Works s s3 := .ite (h2.trans (.same rfl)) h2
    exact .ite (h3.trans (works_raisePrinter _)) h3

theorem works_engineSettled (who : Requester) (res : BatchResult) (excl : List Excl) (faults : List MFault) (s : State) :
    Works s (engineSettled who res excl faults s) := by
  unfold engineSettled
  refine .ite (.refl s) ?_
  split
  · exact .same rfl
  · exact (works_createOwn _ s).trans (works_endCause _ _ _)
  · exact .ite ((works_createRecords _ s).trans (.same rfl)) (works_createRecords _ s)
  · exact .refl s

/-- A run in ENDING becomes ENDED, its source off (R105). -/
theorem works_runEnded {s : State} (h : s.rnc.state = .ending) : Works s (runEnded s) :=
  (works_raiseRun _).after ⟨⟨rfl, id, id, id⟩, fun hs _ => hs (.inl (by simp [h])), fun _ => .inl h⟩

theorem works_deliver (who : Requester) (res : BatchResult) (excl : List Excl) (faults : List MFault) (s : State) :
    Works s (deliver who res excl faults s) := by
  cases who with
  | reset => exact works_resetComplete s
  | teardown =>
    dsimp only [deliver]
    split
    · exact works_runEnded ‹_›
    · exact .refl s
  | probeOn => exact works_probeSettled _ _ s
  | probeOff =>
    dsimp only [deliver, probeDone]
    split <;> exact .same rfl
  | cte | ise | wte | gsu => exact works_engineSettled _ _ _ _ s

/-- A batch that settles moves the matrix no more (R20). -/
theorem works_settle (res : BatchResult) (b : Batch) (s : State) : Works s (settle res b s) :=
  (works_deliver _ _ _ _ _).after (t := { s with mxc := { s.mxc with batch := none } }) ⟨⟨rfl, id, id, nofun⟩, id, .inl⟩

theorem safe_beginReadback {b : Batch} {s : State} (h : s.mayMove) : StaysSafe s (beginReadback b s) :=
  .ite (works_settle _ b s).safe (safe_setBatch (.inr h))

theorem safe_beginClose {b : Batch} {s : State} (h : s.mayMove) : StaysSafe s (beginClose b s) :=
  .ite (safe_beginReadback h) (.ite (safe_beginReadback h) (safe_setBatch (.inr h)))

theorem safe_beginOpen {b : Batch} {s : State} (h : s.mayMove) : StaysSafe s (beginOpen b s) :=
  .ite (safe_beginClose h) (safe_setBatch (.inr h))

theorem safe_phaseDone {b : Batch} {s : State} (h : s.mayMove) : StaysSafe s (phaseDone b s) := by
  unfold phaseDone
  split
  · exact .ite (safe_beginClose h) (safe_beginReadback h)
  · exact safe_setBatch (.inr h)

theorem safe_readDone (slot : Nat) {b : Batch} {s : State} (h : s.mayMove) : StaysSafe s (readDone slot b s) :=
  .ite (works_settle _ b s).safe (safe_setBatch (.inr h))

/-- A batch in flight past its wait for the bus is one of a moving matrix. -/
theorem State.mayMove.of_batch {s : State} {b : Batch} (hb : s.mxc.batch = some b) (hp : b.phase ≠ .busWait) :
    s.mayMove := .inl (by simp [State.moving, hb, hp])

theorem safe_acknowledge (point : Nat) (side : Side) (s : State) : StaysSafe s (acknowledge point side s) := by
  unfold acknowledge
  split
  · exact Works.safe (.same rfl)
  · rename_i b hb
    split
    · exact Works.safe (.same rfl)
    · rename_i hc
      have hp : b.phase ≠ .busWait := fun hp => hc (by simp [Batch.commanding, hp])
      have hmove : s.mayMove := .of_batch hb hp
      extract_lets b' conn _ s1
      have h1 : StaysSafe s s1 := Works.safe (.same rfl)
      exact .ite (h1.trans (safe_phaseDone hmove)) (h1.trans (safe_setBatch (.inr hmove)))

theorem works_cardGone (slot : Nat) (s : State) : Works s (cardGone slot s) := by
  obtain ⟨hmsu, hhvc, -, -, hrnc, -, -, -, -, -, -, hbatch, -⟩ := cardGone_keeps slot s
  exact .same (by simp only [State.hvView, State.moving, hmsu, hhvc, hrnc, hbatch])

theorem safe_goOnWithout (slot : Nat) {b : Batch} {s : State} (h : b.phase = .busWait ∨ s.mayMove) :
    StaysSafe s (goOnWithout slot b s) := by
  unfold goOnWithout
  extract_lets cmds
  obtain hp | hm := h
  · rw [if_neg (by simp [hp]), if_neg (by simp [Batch.commanding, hp])]
    exact safe_setBatch (.inl hp)
  · exact .ite (safe_readDone slot hm) (.ite (safe_phaseDone hm) (safe_setBatch (.inr hm)))

/-- What a batch in flight says of the state after a card has gone. -/
theorem lostIn_mayMove {slot : Nat} {s : State} {b : Batch} (hb : s.mxc.batch = some b) :
    (lostIn slot s b).phase = .busWait ∨ (cardGone slot s).mayMove := by
  have hphase : (lostIn slot s b).phase = b.phase := by
    unfold lostIn
    split <;> rfl
  by_cases hp : b.phase = .busWait
  · exact .inl (hphase.trans hp)
  · exact .inr (.of_batch ((cardGone_batch slot s).trans hb) hp)

theorem safe_ackTimeout (slot : Nat) (s : State) : StaysSafe s (ackTimeout slot s) := by
  unfold ackTimeout
  split
  · exact .ite (works_cardGone slot s).safe (.refl s)
  · exact .ite ((works_cardGone slot s).safe.trans (safe_goOnWithout slot (lostIn_mayMove ‹_›))) (.refl s)

theorem safe_readbackLost (slot : Nat) (s : State) : StaysSafe s (readbackLost slot s) := by
  unfold readbackLost
  split
  · exact .refl s
  · rename_i b hb
    split
    · exact .refl s
    · rename_i hc
      have hp : b.phase = .readback := by simp only [Bool.or_eq_true, not_or, decide_eq_true_eq, not_not] at hc; exact hc.1
      exact (works_cardGone slot s).safe.trans (safe_readDone slot
        (.of_batch ((cardGone_batch slot s).trans hb) (by rw [hp]; nofun)))

theorem safe_readback (slot : Nat) (a b : BitVec 64) (s : State) : StaysSafe s (readback slot a b s) := by
  by_cases h : ∃ bt, s.mxc.batch = some bt ∧ bt.phase = .readback ∧ slot ∈ bt.reads
  · obtain ⟨bt, hb, hp, hr⟩ := h
    rw [readback_eq hb hp hr]
    have hread : Works s (readTable slot a b s) := .same rfl
    exact hread.safe.trans (safe_readDone slot (.of_batch (show (readTable slot a b s).mxc.batch = some bt from hb)
      (by rw [hp]; nofun)))
  · rw [readback_idle fun bt hb hp hr => h ⟨bt, hb, hp, hr⟩]
    exact .refl s

theorem safe_waitEnd {which : BatchPhase} (hw : which ≠ .busWait) (s : State) : StaysSafe s (waitEnd which s) := by
  unfold waitEnd
  split
  · exact .refl s
  · rename_i b hb
    split
    · exact .refl s
    · rename_i hp
      have hmove : s.mayMove := .of_batch hb (by rw [not_not.mp hp]; exact hw)
      split
      · exact safe_beginClose hmove
      · exact safe_beginReadback hmove
      · exact .refl s

/-- The precondition shuts the gate, and lets the matrix move on a safe bus with the source off (R12). -/
theorem safe_precondition {b : Batch} {s : State} (hp : b.phase = .busWait) : StaysSafe s (precondition b s) := by
  unfold precondition
  extract_lets s1
  obtain ⟨h1, hshut⟩ := works_closeGate s
  have hwin : s1.msu.window = none := Msu.gateOpen_eq_false.mp hshut
  split
  · rename_i hstill
    simp only [State.busStill, Bool.and_eq_true, Bool.not_eq_true', decide_eq_true_eq] at hstill
    exact h1.safe.trans (safe_beginOpen (.inr ⟨hwin, hstill.1, hstill.2⟩))
  · rcases disable_spec .mxc s1 with ⟨hd, hoff, hbus⟩ | ⟨hd, -, -, -⟩ | ⟨t, hd, -⟩ <;> rw [hd]
    · exact h1.safe.trans (safe_beginOpen (.inr ⟨hwin, Hvc.sourceOn_off hoff, hbus⟩))
    · exact h1.safe.trans (works_settle _ b s1).safe
    · exact (h1.trans (works_disable hd).1).safe.trans (safe_setBatch (.inl hp))

theorem safe_takeHeld (n : Nat) (s : State) : StaysSafe s (takeHeld n s) :=
  takeHeld_keeps (P := StaysSafe s) (fun _ rs t _ h => h.trans
    (StaysSafe.after (t := { t with mxc.held := rs })
      (.ite (works_settle _ _ _).safe (.ite (works_settle _ _ _).safe (safe_precondition rfl))) (Works.safe (.same rfl))))
    n s (.refl s)

/-! ### Windows, and what waits for the bus -/

/-- A window opens on a still matrix with the source off (R29, R13). -/
theorem safe_openFirst {s : State} (hoff : s.hvc.sourceOn = false) (hstill : s.moving = false) :
    StaysSafe s (openFirst s) := by
  unfold openFirst
  split
  · exact .refl s
  · exact ⟨fun ⟨hsource, _, _, hclosed⟩ => ⟨hsource, fun _ => hoff, fun hm => absurd (hm.symm.trans hstill) nofun, hclosed⟩,
      rfl, id, .inl, fun _ => id, .inl⟩

theorem safe_windowSafe {s : State} (hoff : s.hvc.sourceOn = false) : StaysSafe s (windowSafe s) := by
  unfold windowSafe
  extract_lets _ s1
  have h1 : StaysSafe s s1 := Works.safe (.same rfl)
  split
  · exact h1
  · rename_i hc
    simp only [Bool.or_eq_true, not_or, Bool.not_eq_true] at hc
    exact h1.trans (safe_openFirst hoff hc.1)

theorem safe_windowTake (s : State) : StaysSafe s (windowTake s) := by
  unfold windowTake
  split
  · exact .refl s
  · rename_i hc
    have hstill : s.moving = false := by simp only [Bool.or_eq_true, not_or, Bool.not_eq_true] at hc; exact hc.2
    split
    · rename_i hb
      simp only [State.busStill, Bool.and_eq_true, Bool.not_eq_true'] at hb
      exact safe_openFirst hb.1 hstill
    · rcases disable_spec .msu s with ⟨hd, hoff, -⟩ | ⟨hd, -, -, -⟩ | ⟨t, hd, -⟩ <;> rw [hd]
      · exact safe_openFirst (Hvc.sourceOn_off hoff) hstill
      · exact (works_windowUnsafe s).safe
      · exact Works.safe ((works_disable hd).1.trans (.same rfl))

/-- Bus safe, told to a waiter with the source off and the bus at or below 30 V (R12, R29, R104). -/
theorem safe_answerSafe {s : State} (w : Waiter) (hoff : s.hvc.sourceOn = false) (hbus : s.hvc.bus ≤ 30000) :
    StaysSafe s (answerSafe s w) := by
  cases w with
  | mxc =>
    dsimp only [answerSafe, batchSafe]
    split
    · obtain ⟨h1, hshut⟩ := works_closeGate s
      have hoff1 : (closeGate s).hvc.sourceOn = false :=
        Bool.eq_false_iff.mpr fun h => Bool.eq_false_iff.mp hoff (h1.source h)
      exact .ite (h1.safe.trans (safe_beginOpen
        (.inr ⟨Msu.gateOpen_eq_false.mp hshut, hoff1, h1.safe.bus ▸ hbus⟩))) (.refl s)
    · exact .refl s
  | msu => exact safe_windowSafe hoff
  | rnc => exact (works_enterEnding hoff (.inl hbus)).safe

/-- A discharge fault, told to a waiter with the source off and the latch set (R12, R29, R104). -/
theorem works_answerFault {s : State} (w : Waiter) (hoff : s.hvc.sourceOn = false) (hlatch : s.hvc.dischLatch = true) :
    Works s (answerFault s w) := by
  cases w with
  | mxc =>
    dsimp only [answerFault, batchFault]
    split
    · exact .ite (works_settle _ _ s) (.refl s)
    · exact .refl s
  | msu => exact works_windowUnsafe s
  | rnc => exact (works_overrideFault hoff).trans (works_enterEnding hoff (.inr hlatch))

/-- Bus safe: the source off before and after (R135). -/
theorem safe_busSafe {s : State} (hbus : s.hvc.bus ≤ 30000) : StaysSafe s (busSafe s) := by
  rw [busSafe_eq hbus]
  extract_lets off
  have hoff : Works s (if s.hvc.energised = true ∧ s.ise.isSome = true then later [.insulSafe] off else off) :=
    .ite ⟨⟨rfl, nofun, id, id⟩, fun _ => .of_off rfl, .inl⟩ ⟨⟨rfl, nofun, id, id⟩, fun _ => .of_off rfl, .inl⟩
  have hsource : (if s.hvc.energised = true ∧ s.ise.isSome = true then later [.insulSafe] off else off).hvc.sourceOn =
      false := by split <;> rfl
  refine (List.foldlRecOn (motive := fun t => StaysSafe s t ∧ t.hvc.sourceOn = false) _ _ ⟨hoff.safe, hsource⟩
    fun t ⟨ht, ho⟩ w _ => ?_).1
  have hw := safe_answerSafe w ho (ht.bus ▸ hbus)
  exact ⟨ht.trans hw, Bool.eq_false_iff.mpr fun h => Bool.eq_false_iff.mp ho (hw.source h)⟩

end Sys2Proof.Machine
end

section
/-! PROOFS. The high-voltage controller's own commands, the requests that reset or release, and the laws at every step; O59. -/

namespace Sys2Proof.Machine

/-! ### High voltage removed -/

/-- A discharge fault (R136): from DISCHARGE, so the source is off all along, and the latch is set when the run ends. -/
theorem safe_dischargeFault (s : State) : StaysSafe s (dischargeFault s) := by
  unfold dischargeFault
  split
  · rename_i hc
    extract_lets waiters energised _ s1 _ s2 s3
    obtain ⟨q, h1⟩ : ∃ q, s1 = { s with
        hvc := { s.hvc with dischLatch := true, safety := s.hvc.safety.add .discharge }
        flk := { s.flk with notices := q } } := latchCause_spec .discharge _
    have hsafe : StaysSafe s s1 := by
      rw [h1]
      exact .of_off (by simp [Hvc.sourceOn, hc.1]) rfl rfl rfl rfl fun _ => rfl
    have h2 : Works s1 s2 := ⟨⟨rfl, nofun, id, id⟩, fun _ => .of_off rfl, .inl⟩
    have h3 : Works s1 s3 := by
      unfold s3
      split
      · split
        · exact h2.trans (works_createOwn _ _)
        · exact h2
      · exact h2
    have hoff : s1.hvc.sourceOn = false := by rw [h1]; simp [Hvc.sourceOn, hc.1]
    have hfold : Works s1 (waiters.foldl answerFault s3) :=
      List.foldlRecOn (motive := Works s1) waiters _ h3 fun t ht w _ => by
        have hin := ht.inputs
        simp only [Hvc.inputs, Prod.mk.injEq] at hin
        exact ht.trans (works_answerFault w (Bool.eq_false_iff.mpr fun h => Bool.eq_false_iff.mp hoff (ht.source h))
          (hin.2.2.1.trans (by rw [h1])))
    exact hsafe.trans (hfold.trans (works_endCause _ _ _)).safe
  · exact .refl s

theorem works_insulTrip (s : State) : Works s (insulTrip s) := by
  unfold insulTrip
  repeat' split
  all_goals exact .same rfl

theorem works_insulArc (s : State) : Works s (insulArc s) := by
  unfold insulArc
  repeat' split
  all_goals exact .same rfl

/-- A trip sets its latch with the source off (R138). -/
theorem safe_trip (s : State) : StaysSafe s (trip s) := by
  unfold trip
  extract_lets s1
  obtain ⟨q, hq⟩ := latchCause_spec .trip { s1 with hvc := { s1.hvc with tripLatch := true } }
  refine (works_insulTrip _).safe.after ((works_enterDischarge s).safe.trans ?_)
  rw [hq]
  exact .of_off rfl rfl rfl rfl rfl id

/-- What a fast reading counts is no part of the laws (R132, R138). -/
theorem safe_fastCount (pa : Nat) (s : State) : StaysSafe s (fastCount pa s) := ⟨id, rfl, id, .inl, fun _ => id, .inl⟩

theorem safe_fastReading (n : Nat) (s : State) : StaysSafe s (fastReading n s) := by
  unfold fastReading
  extract_lets pa _ s1 _ s2
  have h1 : StaysSafe s s1 := safe_fastCount pa s
  have h2 : StaysSafe s s2 := h1.trans (Works.safe (.same rfl))
  exact .ite (.refl s) (.ite (h1.trans (safe_trip _))
    (.ite (.ite (h2.trans ((works_enterDischarge _).trans (works_insulArc _)).safe) h2) h1))

/-- Where the source is on, high voltage is removed: it is off after (R146). -/
theorem removeIfUp_off (s : State) : (removeIfUp s).hvc.sourceOn = false := by
  unfold removeIfUp
  split
  · rfl
  · simpa using ‹¬ s.hvc.sourceOn = true›

/-- The guard's opening, or the link's loss, noted and high voltage removed: the inputs may be anything, the source being off. -/
theorem safe_causeRemoves {s t : State} (c : Cause) (hbus : t.hvc.bus = s.hvc.bus) (hgate : t.msu.window = s.msu.window)
    (hmove : t.moving = s.moving) (hrun : t.rnc.state = s.rnc.state) (hlatch : t.hvc.dischLatch = s.hvc.dischLatch) :
    StaysSafe s (removeIfUp (latchCause c t)) := by
  obtain ⟨q, hq⟩ := latchCause_spec c t
  have hoff := removeIfUp_off (latchCause c t)
  rw [hq] at hoff ⊢
  unfold removeIfUp at hoff ⊢
  split
  · rw [removeHv_spec]
    exact .of_off rfl hbus hgate hmove hrun fun h => hlatch.trans h
  · rw [if_neg ‹_›] at hoff
    exact .of_off hoff hbus hgate hmove hrun fun h => hlatch.trans h

theorem safe_guardOpened (s : State) : StaysSafe s (guardOpened s) := by
  unfold guardOpened
  extract_lets _ s1 s2
  have h2 : StaysSafe s s2 := (works_refuseWaiting .guard _).safe.after (safe_causeRemoves .guard rfl rfl rfl rfl rfl)
  exact .ite (.ite (h2.trans (works_addStriking _ _).safe) h2) (.refl s)

theorem safe_watchdogOut (s : State) : StaysSafe s (watchdogOut s) := by
  unfold watchdogOut
  extract_lets _ s1
  have h1 : StaysSafe s s1 := (works_refuseWaiting .link _).safe.after (safe_causeRemoves .link rfl rfl rfl rfl rfl)
  exact .ite (.ite (h1.trans (works_addStriking _ _).safe) h1) (.refl s)

/-- The guard's closing forbids nothing (R150). -/
theorem safe_guardClosedIn (s : State) : StaysSafe s (guardClosedIn s) where
  laws := fun ⟨hsource, hrest⟩ => ⟨fun h => ⟨rfl, (hsource h).2⟩, hrest⟩
  bus := rfl
  source := id
  moving := .inl
  latch := fun _ => id
  ending := .inl

/-! ### The energisation's ticks and time outs -/

theorem works_requestReading (r : LRange) (s : State) : Works s (requestReading r s) := .same rfl

theorem works_rampTick (s : State) : Works s (rampTick s) := .ite (.same rfl) (.refl s)

theorem works_rampCheck (s : State) : Works s (rampCheck s) := by
  unfold rampCheck
  split
  · extract_lets _ s1
    have h1 : Works s s1 := .same rfl
    split
    · exact h1.trans (works_requestReading _ _)
    · exact h1
  · exact .refl s

theorem works_dwellTick (s : State) : Works s (dwellTick s) := by
  unfold dwellTick
  split
  · extract_lets _ s1
    have h1 : Works s s1 := .same rfl
    split
    · exact h1.trans (works_requestReading _ _)
    · exact h1
  · exact .refl s

theorem works_dwellTimeOut (s : State) : Works s (dwellTimeOut s) := by
  unfold dwellTimeOut
  split
  · extract_lets _ s1
    have h1 : Works s s1 := .same rfl
    split
    · exact .ite h1 (.ite (h1.trans (.same rfl)) (h1.trans (works_fixPass _ _)))
    · exact h1
  · exact .refl s

theorem works_settleEnd (s : State) : Works s (settleEnd s) := works_mapWindow _ s.msu.contRange s

/-! ### The line, the scan, the resets and the release -/

theorem works_discard (s : State) : Works s (discard s) := .same rfl

/-- A request's frame reloads the watchdog: an expired link comes back, which forbids nothing (R202). -/
theorem safe_submit (r : Request) (s : State) : StaysSafe s (submit r s) := by
  refine .ite (works_discard s).safe ⟨fun ⟨hsource, hrest⟩ => ⟨fun h => ?_, hrest⟩, rfl, id, .inl, fun _ => id, .inl⟩
  obtain ⟨hguard, htrip, hdisch, hlink⟩ := hsource h
  refine ⟨hguard, htrip, hdisch, ?_⟩
  show (if s.flk.expired = true then false else s.hvc.linkExpired) = false
  rw [hlink, ite_self]

theorem safe_receive (b : Byte) (s : State) : StaysSafe s (receive b s) := by
  unfold receive
  split
  · exact Works.safe (.same rfl)
  · exact Works.safe (.same rfl)
  · exact (safe_submit _ _).after (Works.safe (.same rfl))

theorem works_byteGap (s : State) : Works s (byteGap s) := .ite (.refl s) (.same rfl)

theorem works_scanned (d : Option Desc) (sc : Scan) (s : State) : Works s (scanned d sc s) := by
  have hslot : Works s (scanSlot d sc.slot s) := by cases d <;> exact .same rfl
  rw [scanned_eq]
  refine .ite (hslot.trans (.same rfl)) ?_
  extract_lets _ _ t
  have ht : Works s t := hslot.trans (.same rfl)
  exact Works.trans (t := if sc.hadLost = true then raiseCard t else t) (.ite (ht.trans (works_raise _ _ t)) ht) (.same rfl)

theorem works_scanStep (d : Nat → Option Desc) (s : State) : Works s (scanStep d s) := by
  unfold scanStep
  split
  · exact works_scanned _ _ s
  · exact .refl s

/-- A reset leaves the source off, the gate shut, the matrix at rest and no run (R203, R156). -/
theorem safe_takeReset (k : ResetKind) (straps : BitVec 2) (s : State) : StaysSafe s (takeReset k straps s) := by
  have hoff : (takeReset k straps s).hvc.sourceOn = false := by
    rw [takeReset_hvc]; exact resetHvc_sourceOff k s.hvc
  have hbus : (takeReset k straps s).hvc.bus = s.hvc.bus := by cases k <;> rfl
  have hstill : (takeReset k straps s).moving = false := by cases k <;> rfl
  have hidle : (takeReset k straps s).rnc.state = .idle := by cases k <;> rfl
  refine ⟨fun _ => ⟨fun h => absurd (h.symm.trans hoff) nofun, fun _ => hoff, fun h => absurd (h.symm.trans hstill) nofun,
    .of_off hoff⟩, hbus, fun h => absurd (h.symm.trans hoff) nofun, fun h => absurd (h.symm.trans hstill) nofun,
    fun h => absurd (h.symm.trans hidle) nofun, fun h => absurd (h.symm.trans hidle) nofun⟩

/-- HV-RELEASE clears the latches on a safe bus alone (R153). -/
theorem safe_doHvRelease (s : State) : StaysSafe s (doHvRelease s) := by
  unfold doHvRelease
  extract_lets _ s1 s2
  split
  · exact Works.safe (.same rfl)
  · rename_i hc
    have h1 : StaysSafe s s1 := by
      refine ⟨fun ⟨hsource, hrest⟩ => ⟨fun h => ?_, hrest⟩, rfl, id, .inl, fun _ _ => .inl (Nat.not_lt.mp hc), .inl⟩
      obtain ⟨hguard, -, -, hlink⟩ := hsource h
      exact ⟨hguard, rfl, rfl, hlink⟩
    exact (works_answer _ _ _).safe.after (.ite (h1.trans (works_removeHold _ _).safe) h1)

theorem safe_carryOut (i : Instr) (s : State) : StaysSafe s (carryOut i s) := by
  by_cases hv : i = .hvRelease
  · rw [hv]; exact safe_doHvRelease s
  by_cases ha : i = .resetAll
  · rw [ha]; exact safe_takeReset _ _ s
  by_cases hk : i = .resetWork
  · rw [hk]; exact safe_takeReset _ _ s
  exact (works_carryOut hv ha hk s).safe

theorem safe_service (s : State) : StaysSafe s (service s) := by
  unfold service
  refine .ite (.refl s) ?_
  split
  · exact .refl s
  · rename_i r rs _
    refine StaysSafe.trans (t := { s with flk := { s.flk with requests := rs, busy := true } }) (Works.safe (.same rfl)) ?_
    cases r with
    | ok i => exact safe_carryOut i _
    | badLength t => exact Works.safe (.same rfl)

theorem safe_finish (before s : State) : StaysSafe s (finish before s) := by
  have htake (t : State) : StaysSafe t (takeAfterSettle before t) := .ite (safe_takeHeld _ t) (.refl t)
  have h1 := ((safe_service s).trans (works_pump Config.engineFuel _).safe).trans (htake _)
  exact h1.trans ((works_pump Config.engineFuel _).trans ((works_heldAtEnd _).trans ((works_wakePrint _).trans
    ((works_streamFill _).trans ((works_transmit _).trans (works_streamFill _)))))).safe

/-! ### A reading of the bus, and the source enabled -/

/-- What comes first in a step: the bus is read, or the source enabled. The laws are kept, nothing begins to move and no run
enters ENDING; the source goes on in RUNNING alone. -/
structure Begins (s t : State) : Prop where
  laws : s.hvLaws → t.hvLaws
  moving : t.moving = true → s.moving = true
  source : t.hvc.sourceOn = true → s.hvc.sourceOn = true ∨ s.rnc.state = .running
  ending : t.rnc.state = .ending → s.rnc.state = .ending

theorem Begins.refl (s : State) : Begins s s := ⟨id, id, .inl, id⟩

theorem releaseWindow_rnc (o : Owner) (s : State) : (releaseWindow o s).rnc = s.rnc := by
  obtain ⟨m, ws, h, -⟩ := releaseWindow_eq o s
  rw [h]

theorem closeGate_rnc (s : State) : (closeGate s).rnc = s.rnc := by
  unfold closeGate
  split
  · cases ‹Window›.owner with
    | probe =>
      dsimp only [windowLost, probeWindowLost]
      split
      · rfl
      · exact releaseWindow_rnc .probe _
    | _ =>
      dsimp only [windowLost, cteWindowLost, wteWindowLost]
      repeat' split
      all_goals rfl
  · rfl

theorem hvConditions_none {s : State} (h : hvConditions s = none) :
    s.hvc.guardClosed = true ∧ s.hvc.tripLatch = false ∧ s.hvc.dischLatch = false ∧ s.hvc.linkExpired = false ∧
      s.rnc.state = .running ∧ s.rnc.verdict = .none := by
  unfold hvConditions at h
  repeat' split at h
  all_goals simp_all [State.insulationUnit]

/-- The source enabled under its five conditions, the gate shut and the matrix at rest (R130). -/
theorem enable_laws {e : Energ} {s : State} (hc : hvConditions s = none) (hgate : s.msu.gateOpen = false)
    (hstill : s.moving = false) : (enable e s).hvLaws := by
  obtain ⟨hguard, htrip, hdisch, hlink, hrun, hopen⟩ := hvConditions_none hc
  refine ⟨fun _ => ⟨hguard, htrip, hdisch, hlink⟩, fun h => absurd (h.symm.trans hgate) nofun,
    fun h => absurd (h.symm.trans hstill) nofun, ?_⟩
  rintro (⟨hr, -⟩ | hv)
  · exact absurd hrun hr
  · exact absurd hopen hv

theorem begins_energisationTake (s : State) : ∃ u, Begins s u ∧ StaysSafe u (energisationTake s) := by
  unfold energisationTake
  split
  · exact ⟨s, .refl s, .refl s⟩
  · split
    · exact ⟨s, .refl s, .refl s⟩
    · rename_i e _ hstill
      extract_lets _ s1
      obtain ⟨hclose, hshut⟩ := works_closeGate { s with hvc := { s.hvc with waitEnable := none } }
      have h1 : Works s s1 := hclose.after (.same rfl)
      split
      · exact ⟨s, .refl s, Works.safe (h1.trans (.same rfl))⟩
      · rename_i hc
        have hstill1 : s1.moving = false := Bool.eq_false_iff.mpr fun h => hstill (h1.moving h)
        obtain ⟨-, -, -, -, hrun1, -⟩ := hvConditions_none hc
        have hrnc := closeGate_rnc { s with hvc := { s.hvc with waitEnable := none } }
        have hrun : s.rnc.state = .running := (congrArg Rnc.state hrnc).symm.trans hrun1
        exact ⟨enable e s1, ⟨fun _ => enable_laws hc hshut hstill1, fun h => absurd (hstill1.symm.trans h) nofun,
          fun _ => .inr hrun, fun h => absurd (hrun1.symm.trans h) nofun⟩, .refl _⟩

/-- The laws do not look at the bus (R131). -/
theorem begins_busReading (raw : Word16) (s : State) : ∃ u, Begins s u ∧ StaysSafe u (busReading raw s) := by
  unfold busReading
  rw [clockTick_eq]
  extract_lets _ s1 _ s2
  have hbegins : Begins s s2 := ⟨id, id, .inl, id⟩
  refine ⟨s2, hbegins, ?_⟩
  split
  · rename_i hc
    exact safe_busSafe hc.2
  · exact .refl s2

/-! ### Every step -/

/-- A step: what comes first, and then work that raises no voltage. -/
def KeepsHv (s t : State) : Prop := ∃ u, Begins s u ∧ StaysSafe u t

theorem StaysSafe.keepsHv {s t : State} (h : StaysSafe s t) : KeepsHv s t := ⟨s, .refl s, h⟩

theorem Works.keepsHv {s t : State} (h : Works s t) : KeepsHv s t := h.safe.keepsHv

theorem keepsHv_command {f : State → State} {s t : State} (hf : KeepsHv s (f s)) (h : command f s = .next t) :
    KeepsHv s t := by
  obtain rfl : finish s (f s) = t := by simpa [command] using h
  obtain ⟨u, hu, hsafe⟩ := hf
  exact ⟨u, hu, hsafe.trans (safe_finish s _)⟩

theorem keepsHv_exec {i : Instr} {s t : State} (h : exec i s = .next t) : KeepsHv s t := by
  cases i with
  | powerOn straps => exact keepsHv_command (safe_takeReset _ _ s).keepsHv h
  | resetPin straps => exact keepsHv_command (safe_takeReset _ _ s).keepsHv h
  | receivedByte b => exact keepsHv_command (safe_receive b s).keepsHv h
  | interByteGapTimeout => exact keepsHv_command (works_byteGap s).keepsHv h
  | frameSent => exact keepsHv_command (works_frameGone s).keepsHv h
  | linkWatchdogExpiry => exact keepsHv_command (safe_watchdogOut s).keepsHv h
  | scanDescriptor d ok => exact keepsHv_command (works_scanStep _ s).keepsHv h
  | scanProbeTimeout => exact keepsHv_command (works_scanStep _ s).keepsHv h
  | batchRequest => exact keepsHv_command (safe_takeHeld _ s).keepsHv h
  | cardAcknowledge p side => exact keepsHv_command (safe_acknowledge p side s).keepsHv h
  | cardAckTimeout k => exact keepsHv_command (safe_ackTimeout k s).keepsHv h
  | openPhaseWaitEnd => exact keepsHv_command (safe_waitEnd (which := .openWait) nofun s).keepsHv h
  | closePhaseWaitEnd => exact keepsHv_command (safe_waitEnd (which := .closeWait) nofun s).keepsHv h
  | readbackReport k a b => exact keepsHv_command (safe_readback k a b s).keepsHv h
  | readbackTimeout k => exact keepsHv_command (safe_readbackLost k s).keepsHv h
  | windowOpen => exact keepsHv_command (safe_windowTake s).keepsHv h
  | settleTimeEnd => exact keepsHv_command (works_settleEnd s).keepsHv h
  | sample raw => exact keepsHv_command (works_sampleIn raw s).keepsHv h
  | insulationReading leak hvm => exact keepsHv_command (works_insulationIn leak hvm s).keepsHv h
  | busMonitorReading raw => exact keepsHv_command (begins_busReading raw s) h
  | energisationEnable => exact keepsHv_command (begins_energisationTake s) h
  | rampTick => exact keepsHv_command (works_rampTick s).keepsHv h
  | rampCheck => exact keepsHv_command (works_rampCheck s).keepsHv h
  | dwellTick => exact keepsHv_command (works_dwellTick s).keepsHv h
  | dwellTimeOut => exact keepsHv_command (works_dwellTimeOut s).keepsHv h
  | fastReading n => exact keepsHv_command (safe_fastReading n s).keepsHv h
  | dischargeFault => exact keepsHv_command (safe_dischargeFault s).keepsHv h
  | guardOpen => exact keepsHv_command (safe_guardOpened s).keepsHv h
  | guardClose => exact keepsHv_command (safe_guardClosedIn s).keepsHv h
  | characterSent busy => exact keepsHv_command (works_charGone busy s).keepsHv h
  | paperChange present busy => exact keepsHv_command (works_paperChanged present busy s).keepsHv h
  | busyFall => exact keepsHv_command (works_busyFell s).keepsHv h
  | busyTimeout => exact keepsHv_command (works_busyOut s).keepsHv h
  | _ => exact keepsHv_command (safe_submit _ s).keepsHv h

theorem keepsHv_step {s t : State} (h : step s = .next t) : KeepsHv s t := by
  unfold step at h
  split at h
  · cases h; exact (Works.refl s).keepsHv
  · rename_i c rest _
    obtain ⟨u, hu, hsafe⟩ := keepsHv_exec h
    exact ⟨u, ⟨hu.laws, hu.moving, hu.source, hu.ending⟩, hsafe⟩

/-- Settles O59: a step reads the bus or enables the source where it may (`Begins`), and the rest of it raises no voltage
(`StaysSafe`). -/
theorem everyStepKeepsTheSourceAndGateLaws : Obligations.EveryStepKeepsTheSourceAndGateLaws := by
  intro s t hs h
  obtain ⟨u, hu, hsafe⟩ := keepsHv_step h
  obtain ⟨hsource, hgate, hmoving, hclosed⟩ := hsafe.laws (hu.laws hs)
  refine ⟨hsource, hgate, hmoving, hclosed, fun hstill hm => ?_, fun hrun hoff => ?_, fun hrun hend => ?_⟩
  · rw [hsafe.bus]
    refine (hsafe.moving hm).resolve_left fun hum => ?_
    exact absurd (hstill.symm.trans (hu.moving hum)) nofun
  · refine Bool.eq_false_iff.mpr fun hon => ?_
    exact (hu.source (hsafe.source hon)).elim (fun h => absurd (h.symm.trans hoff) nofun) hrun
  · exact (hsafe.ending hend).resolve_left (hrun ∘ hu.ending)

end Sys2Proof.Machine
end

section
/-! PROOFS. The course of an energisation: enable, ramp, hold, check, dwell and its time out; O49. -/

namespace Sys2Proof.Machine

/-! ### The source enabled (R130) -/

/-- The five conditions, checked in the order R130 gives them. -/
theorem hvConditions_met {s : State} (hguard : s.hvc.guardClosed = true) (htrip : s.hvc.tripLatch = false)
    (hdisch : s.hvc.dischLatch = false) (hlink : s.hvc.linkExpired = false) (hunit : s.insulationUnit = true) :
    hvConditions s = none := by simp [hvConditions, hguard, htrip, hdisch, hlink, hunit]

theorem insulationUnit_of {s : State} (hrun : s.rnc.state = .running) (hopen : s.rnc.verdict = .none)
    (hunit : s.rnc.unit = some .insulation) : s.insulationUnit = true := by
  simp [State.insulationUnit, hrun, hopen, hunit]

/-- The source as it starts its climb (R130, steps 1 to 3). -/
theorem enable_eq (e : Energ) (s : State) : enable e s = { s with hvc := { s.hvc with
    state := .ramp, setpoint := 0, energ := e, energised := true, holding := false, checking := false, dwellClock := 0,
    arcCount := 0, tripRun := 0, lastFast := 0, energPeak := 0, lamp := true } } := by
  simp [enable, setLamp, Hvc.sourceOn]

/-- With the matrix at rest and the gate shut, the request that waits is enabled once its conditions are met (R130). -/
theorem energisationTake_enables {s : State} {e : Energ} (hwait : s.hvc.waitEnable = some e) (hstill : s.moving = false)
    (hwin : s.msu.window = none) (hmet : hvConditions { s with hvc := { s.hvc with waitEnable := none } } = none) :
    energisationTake s = enable e { s with hvc := { s.hvc with waitEnable := none } } := by
  simp [energisationTake, hwait, hstill, closeGate, hwin, hmet]

/-! ### Ramp and dwell (R133, R134) -/

/-- The setpoint climbs by the slew to the target, where the hold starts (R133). -/
theorem rampTick_climbs {s : State} (hs : s.hvc.state = .ramp) (hlt : s.hvc.setpoint < s.hvc.energ.target) :
    rampTick s = { s with hvc := { s.hvc with
      setpoint := min s.hvc.energ.target (s.hvc.setpoint + s.hvc.energ.slew)
      holding := decide (s.hvc.energ.target ≤ s.hvc.setpoint + s.hvc.energ.slew) } } := by
  have hhold : (min s.hvc.energ.target (s.hvc.setpoint + s.hvc.energ.slew) == s.hvc.energ.target) =
      decide (s.hvc.energ.target ≤ s.hvc.setpoint + s.hvc.energ.slew) :=
    decide_eq_decide.mpr min_eq_left_iff
  simp [rampTick, hs, hlt, hhold]

theorem rampCheck_reads {s : State} {j : InsulJob} (hs : s.hvc.state = .ramp) (hhold : s.hvc.holding = true)
    (hj : s.ise = some j) : rampCheck s = { s with
      hvc := { s.hvc with holding := false, checking := true }
      msu := { s.msu with leakRange := .ir0, reading := true } } := by
  simp [rampCheck, hs, hhold, hj, requestReading]

theorem dwellTick_reads {s : State} {j : InsulJob} (hs : s.hvc.state = .dwell) (hj : s.ise = some j)
    (hlt : s.hvc.dwellClock + 10 < s.hvc.energ.dwell) : dwellTick s = { s with
      hvc := { s.hvc with dwellClock := s.hvc.dwellClock + 10 }
      msu := { s.msu with leakRange := j.leak, reading := true } } := by
  simp [dwellTick, hs, hlt, hj, requestReading]

/-- At the time out, with no verdict and no reading under way, the ISE's verdict is PASS and the source goes off (R134). -/
theorem dwellTimeOut_passes {s : State} {j : InsulJob} (hs : s.hvc.state = .dwell) (hj : s.ise = some j)
    (hv : j.verdict = .none) (hr : s.msu.reading = false) : dwellTimeOut s = { s with
      hvc := { s.hvc with
        dwellClock := s.hvc.energ.dwell, state := .discharge, setpoint := 0, holding := false, checking := false,
        timer := true, lamp := decide (30000 < s.hvc.bus) }
      ise := some { j with verdict := .pass } } := by
  simp [dwellTimeOut, hs, hj, hv, hr, fixPass, enterDischarge_spec, setIse]
  rfl

/-- Settles O49: each command of a calm state is its effect on the energisation, and the transmitter. -/
theorem energisationRunsItsCourse : Obligations.EnergisationRunsItsCourse := by
  intro s h
  obtain ⟨⟨htodo, hprint, hstream, hstruck⟩, hreq⟩ := h
  refine ⟨fun e hwait hstill hwin hguard htrip hdisch hlink hrun hopen hunit => ?_, fun hs hlt => ?_,
    fun j hs hhold hj => ?_, fun j hs hj hlt => ?_, fun j hs hj hv hr => ?_⟩
  · have htake := energisationTake_enables hwait hstill hwin
      (hvConditions_met hguard htrip hdisch hlink (insulationUnit_of hrun hopen hunit))
    exact command_calm (htake.trans (enable_eq e _)) ⟨htodo, hprint, hstream, fun _ => rfl⟩ hreq id
  · exact command_calm (rampTick_climbs hs hlt) ⟨htodo, hprint, hstream, hstruck⟩ hreq id
  · exact command_calm (rampCheck_reads hs hhold hj) ⟨htodo, hprint, hstream, hstruck⟩ hreq id
  · exact command_calm (dwellTick_reads hs hj hlt) ⟨htodo, hprint, hstream, hstruck⟩ hreq id
  · exact command_calm (dwellTimeOut_passes hs hj hv hr) ⟨htodo, hprint, hstream, hstruck⟩ hreq id

end Sys2Proof.Machine
end

section
/-! PROOFS. HV-RELEASE and SAFETY-READ; O32. -/

namespace Sys2Proof.Machine

/-! ### The latches released (R153) -/

/-- The controller with both latches and the peak hold cleared. -/
def Hvc.released (h : Hvc) : Hvc := { h with tripLatch := false, dischLatch := false, peakHold := 0 }

def State.released (s : State) : State := { s with hvc := s.hvc.released }

/-- Without TRIP_LATCHED in the hold set there is none to leave it. -/
theorem removeHold_absent {s : State} (h : s.rnc.hold.tripLatched = false) : removeHold [.tripLatched] s = s := by
  have hsame : s.rnc.hold.remove [.tripLatched] = s.rnc.hold := congrArg (fun b => { s.rnc.hold with tripLatched := b }) h.symm
  unfold removeHold
  exact if_pos hsame

/-- The reply of HV-RELEASE when no latch is left and no peak held (R153). -/
def releasedReply : Frame := replyFrame 0x1B#8 [0#8, 0#8, 0#8, 0#8, 0#8]

/-- On a safe bus the latches and the peak hold are cleared, and the reply says so. -/
theorem doHvRelease_safe {s t : State} (hbus : s.hvc.bus ≤ 30000) (hhvc : t.hvc = s.hvc.released)
    (ht : (if s.hvc.tripLatch = true then removeHold [.tripLatched] s.released else s.released) = t) :
    doHvRelease s = place releasedReply t := by
  have hpayload : releasePayload t = [0#8, 0#8, 0#8, 0#8, 0#8] := by
    rw [releasePayload, hhvc]
    exact (by decide : le8 (maskOf [false, false]) ++ le32 0 = [0#8, 0#8, 0#8, 0#8, 0#8])
  have hdo : doHvRelease s = answer 0x1B#8 (releasePayload t) t := by
    rw [← ht]; exact if_neg (Nat.not_lt.mpr hbus)
  rw [hdo, hpayload]; rfl

/-- What is worked off after a request leaves the latches and the peak hold as they are. -/
theorem works_workedOff (s : State) : Works s s.workedOff :=
  (works_pump Config.engineFuel s).trans ((works_pump Config.engineFuel _).trans ((works_heldAtEnd _).trans
    ((works_wakePrint _).trans ((works_streamFill _).trans ((works_transmit _).trans (works_streamFill _))))))

theorem Works.released {s t : State} (h : Works s t) (hs : s.hvc.released = s.hvc) :
    t.hvc.tripLatch = false ∧ t.hvc.dischLatch = false ∧ t.hvc.peakHold = 0 := by
  have hin := h.inputs
  rw [← hs] at hin
  simp only [Hvc.inputs, Hvc.released, Prod.mk.injEq] at hin
  obtain ⟨-, htrip, hdisch, -, -, hpeak⟩ := hin
  exact ⟨htrip, hdisch, hpeak⟩

/-- Settles O32: the release refused, the latches cleared with no reason removed, and TRIP_LATCHED removed from a run that stays
(`removeHold_stays`) or goes on (`removeHold_continues`, `goingOn_wentOn`). -/
theorem safetyRequestsReleaseAndRead : Obligations.SafetyRequestsReleaseAndRead := by
  intro s hq released
  have ⟨⟨hsettled, _⟩, _, hwire, _, _⟩ := hq
  have hdo : carryOut .hvRelease s.taken = doHvRelease s.taken := rfl
  have hrelease {t : State} (hbus : s.hvc.bus ≤ 30000) (htrip : s.hvc.tripLatch = true) (hhvc : t.hvc = released)
      (ht : removeHold [.tripLatched] s.taken.released = t) :
      carryOut .hvRelease s.taken = place releasedReply t :=
    hdo.trans (doHvRelease_safe hbus hhvc ((if_pos htrip).trans ht))
  refine ⟨fun hbus => ?refused, fun hbus hno => ?cleared, fun hbus htrip hheld hrun => ?running,
    fun hbus htrip hlatched hheld hverd hbatch => ?held, ?read⟩
  case refused => exact request_answered .hvRelease hq _ (hdo.trans (if_pos hbus))
  case cleared =>
    have hclear : (if s.taken.hvc.tripLatch = true then removeHold [.tripLatched] s.taken.released else s.taken.released) =
        s.taken.released := by
      by_cases htrip : s.taken.hvc.tripLatch = true
      · rw [if_pos htrip]
        exact removeHold_absent (hno.resolve_left fun hoff => by simp [State.taken, hoff] at htrip)
      · rw [if_neg htrip]
    exact request_replied .hvRelease hq _ _ (hdo.trans (doHvRelease_safe hbus rfl hclear)) hsettled rfl rfl
  case running =>
    obtain ⟨q, hr⟩ := removeHold_stays (rs := [.tripLatched]) (s := s.taken.released) fun hgo =>
      absurd (hrun.symm.trans hgo.1) nofun
    exact ⟨_, request_answers .hvRelease hq _ _ (hrelease hbus htrip rfl hr) hsettled hwire rfl id,
      rfl, rfl, rfl, rfl, rfl, rfl, rfl⟩
  case held =>
    have hsome : s.rnc.hold ≠ .empty := fun h => by rw [h] at hlatched; cases hlatched
    by_cases hnone : s.rnc.hold.remove [.tripLatched] = .empty
    · obtain ⟨q, hr⟩ := removeHold_continues (rs := [.tripLatched]) (s := s.taken.released) hheld hnone hsome
      cases hwaits : s.rnc.waits with
      | false =>
        have hreply := hrelease hbus htrip rfl (hr.trans (if_neg (by simp [State.released, hwaits])))
        exact ⟨_, request_answers .hvRelease hq _ _ hreply hsettled hwire rfl id, rfl, rfl, rfl, rfl,
          fun hstay => absurd ⟨hheld, hnone⟩ hstay,
          fun _ _ => ⟨fun _ => ⟨rfl, rfl, rfl⟩, fun hw => absurd hw (by simp [hwaits])⟩⟩
      | true =>
        have hreply := hrelease hbus htrip rfl (hr.trans (if_pos hwaits))
        have hgoes := goingOn_wentOn (s := s.taken.released) releasedReply q hsettled hheld
          hverd hwaits hwire
        obtain ⟨htrip', hdisch, hpeak⟩ := (works_workedOff (place releasedReply
          (later [.ask] (s.taken.released.goingOn q)))).released rfl
        exact ⟨_, request_worksOff .hvRelease hq _ hreply hbatch, htrip', hdisch, hpeak,
          (workedOff_replies (s := place _ (later [.ask] (s.taken.released.goingOn q))) hwire rfl).1,
          fun hstay => absurd ⟨hheld, hnone⟩ hstay, fun _ _ => hgoes⟩
    · obtain ⟨q, hr⟩ := removeHold_stays (rs := [.tripLatched]) (s := s.taken.released) fun hgo => hnone hgo.2.1
      exact ⟨_, request_answers .hvRelease hq _ _ (hrelease hbus htrip rfl hr) hsettled hwire rfl id, rfl, rfl, rfl, rfl,
        fun _ => ⟨rfl, rfl, rfl⟩, fun _ hempty => absurd hempty hnone⟩
  case read => exact request_replied .safetyRead hq _ { s.taken with hvc := { s.taken.hvc with
    safety := presentCauses s.taken.hvc } } rfl hsettled rfl rfl

end Sys2Proof.Machine
end

section
/-! PROOFS. The guard's opening and closing; O51. -/

namespace Sys2Proof.Machine

/-! ### What the opening does (R150) -/

/-- The guard open and its cause latched, with the queue of notices `q`. -/
def State.guardOff (q : List Notice) (s : State) : State :=
  { s with
    hvc := { s.hvc with guardClosed := false, safety := { s.hvc.safety with guardOpened := true } }
    flk := { s.flk with notices := q } }

/-- The change from closed to open: the cause latched, high voltage removed, what waits refused, and GUARD in the hold set of an
INSUL step's live run. -/
theorem guardOpened_eq {s : State} (h : s.hvc.guardClosed = true) : ∃ q, guardOpened s =
    let u := refuseWaiting .guard (removeIfUp (s.guardOff q))
    if u.live && u.ise.isSome then addStriking .guard u else u := by
  obtain ⟨q, hq⟩ := latchCause_spec .guard { s with hvc := { s.hvc with guardClosed := false } }
  refine ⟨q, ?_⟩
  have hopen : latchCause .guard { s with hvc := { s.hvc with guardClosed := false } } = s.guardOff q := hq
  rw [guardOpened, if_pos h, hopen]

theorem removeIfUp_down {s : State} (h : s.hvc.sourceOn = false) : removeIfUp s = s := if_neg (by simp [h])

theorem removeIfUp_up {s : State} (h : s.hvc.sourceOn = true) : removeIfUp s = removeHv s := if_pos h

theorem refuseWaiting_none {s : State} (c : HvCause) (h : s.hvc.waitEnable = none) : refuseWaiting c s = s := by
  simp [refuseWaiting, h]

theorem refuseWaiting_some {s : State} {e : Energ} (c : HvCause) (h : s.hvc.waitEnable = some e) :
    refuseWaiting c s = later [.insulRefused c] { s with hvc := { s.hvc with waitEnable := none } } := by
  simp [refuseWaiting, h]

/-- The run with GUARD in its hold set; added anew during an energisation, it strikes it (R103). -/
def State.guardHeld (q : List Notice) (s : State) : State :=
  { s with
    rnc := { s.rnc with
      hold := { s.rnc.hold with guard := true }, struck := s.rnc.struck || (!s.rnc.hold.guard && s.hvc.energised) }
    flk := { s.flk with notices := q } }

theorem addStriking_guard (s : State) : ∃ q, addStriking .guard s = s.guardHeld q := addStriking_spec .guard s

/-- A strike lasts as long as its energisation, so a settled state is still settled. -/
theorem guardHeld_settled {q : List Notice} {s : State} (h : s.settled) : (s.guardHeld q).settled := by
  obtain ⟨htodo, hprint, hstream, hstruck⟩ := h
  refine ⟨htodo, hprint, hstream, fun hs => ?_⟩
  obtain hs | hs := Bool.or_eq_true_iff.mp hs
  · exact hstruck hs
  · exact (Bool.and_eq_true_iff.mp hs).2

/-! ### A request that waits (R143) -/

/-- The refusal reaches the ISE, whose unit asks for its permit again (R143). -/
theorem pump_refused {s : State} {j : InsulJob} (htodo : s.todo = []) (hfree : s.dlg.heldBack = none)
    (hj : s.ise = some j) (hstage : j.stage = .unit) : pump Config.engineFuel (next [.insulRefused .guard] s) =
      pump 999998 (askPermit (setIse { j with phase := .asking } s)) := by
  have hact : runAct (.insulRefused .guard) s = next [.ask] (setIse { j with phase := .asking } s) := by
    simp [runAct, hj, insulRefused, hstage]
  refine (pump_next (n := 999999) _ htodo hfree).trans ?_
  rw [hact]
  exact pump_next .ask htodo hfree

/-- The energisation request that waited, withdrawn. -/
def State.energRefused (s : State) : State := { s with hvc := { s.hvc with waitEnable := none } }

/-- The guard's opening refuses the request that waits, in a live run's INSUL step (R150). -/
theorem guardOpened_refuses {s : State} {e : Energ} {j : InsulJob} (hguard : s.hvc.guardClosed = true)
    (hoff : s.hvc.sourceOn = false) (hwait : s.hvc.waitEnable = some e) (hlive : s.live = true) (hj : s.ise = some j)
    (htodo : s.todo = []) :
    ∃ q q', guardOpened s = next [.insulRefused .guard] ((s.guardOff q).energRefused.guardHeld q') := by
  obtain ⟨q, hq⟩ := guardOpened_eq hguard
  obtain ⟨q', hstrike⟩ := addStriking_guard (later [.insulRefused .guard] (s.guardOff q).energRefused)
  refine ⟨q, q', ?_⟩
  rw [hq, removeIfUp_down (s := s.guardOff q) hoff, refuseWaiting_some .guard (s := s.guardOff q) hwait]
  have hstep : (s.live && s.ise.isSome) = true := by simp [hlive, hj]
  refine (if_pos hstep).trans (hstrike.trans ?_)
  simp [State.guardHeld, State.energRefused, later, next, State.guardOff, htodo]

/-- Settles O51: the guard's closing, its opening with the source off or on, and the request that waits for it. -/
theorem guardRemovesHighVoltage : Obligations.GuardRemovesHighVoltage := by
  intro s h
  have ⟨hset, hreq⟩ := h
  have ⟨htodo, hprint, hstream, hstruck⟩ := hset
  refine ⟨fun j e hguard hoff hen hwait hj hstage hrun hverd hentry hback hfull htrip hlink => ?refused,
    fun hwait => ⟨?closes, fun hguard => ?already, fun hguard hoff => ?down, fun j hguard hon hj hv hlive => ?up⟩⟩
  case refused =>
    have hnever : s.rnc.struck = false := Bool.eq_false_iff.mpr fun hs => by simp [hstruck hs] at hen
    obtain ⟨q, q', hopen⟩ := guardOpened_refuses hguard hoff hwait (s.live_iff.mpr ⟨.inl hrun, hverd⟩) hj htodo
    let u : State := (s.guardOff q).energRefused.guardHeld q'
    have hstill : u.rnc.struck = false := by simp [u, State.guardHeld, State.energRefused, State.guardOff, hnever, hen]
    obtain ⟨_, hask⟩ := askPermit_parks (s := setIse { j with phase := .asking } u) ⟨rfl, hstage, hen, hrun, hverd⟩
      (.inl hstill) hentry hfull fun hc => by
        simpa [HoldSet.checkedBy, u, State.guardHeld, HoldSet.empty] using congrArg HoldSet.guard hc
    have hpump := (pump_refused (s := u) htodo hback hj hstage).trans
      ((congrArg (pump 999998) hask).trans (pump_nil 999998 (by exact htodo)))
    obtain ⟨k, hk⟩ := command_pumped (f := guardOpened) hopen hreq hpump
      (settled_of_same hset rfl rfl ⟨rfl, rfl, rfl⟩ rfl) id
    refine ⟨_, hk, rfl, ?_, rfl, rfl, rfl⟩
    simp [u, State.guardHeld, HoldSet.checkedBy, State.energRefused, State.guardOff, htrip, hlink, hnever]
  case closes => exact command_calm (f := guardClosedIn) rfl hset hreq id
  case already => exact command_calm (f := guardOpened) (if_neg (by simp [hguard])) hset hreq id
  case down =>
    obtain ⟨q, hq⟩ := guardOpened_eq hguard
    rw [removeIfUp_down (s := s.guardOff q) hoff, refuseWaiting_none .guard (s := s.guardOff q) hwait] at hq
    by_cases hheld : s.live = true ∧ s.ise.isSome = true
    · obtain ⟨q', hstrike⟩ := addStriking_guard (s.guardOff q)
      have hopen := hq.trans ((if_pos (Bool.and_eq_true_iff.mpr hheld)).trans hstrike)
      obtain ⟨k, hk⟩ := command_flk (f := guardOpened) hopen (guardHeld_settled hset) hreq id
      exact ⟨_, hk, rfl, by rw [if_pos hheld]; rfl, rfl, rfl, rfl⟩
    · have hopen := hq.trans (if_neg (mt Bool.and_eq_true_iff.mp hheld))
      obtain ⟨k, hk⟩ := command_flk (f := guardOpened) hopen hset hreq id
      exact ⟨_, hk, rfl, by rw [if_neg hheld]; rfl, rfl, rfl, rfl⟩
  case up =>
    obtain ⟨q, hq⟩ := guardOpened_eq hguard
    rw [removeIfUp_up (s := s.guardOff q) hon, removeHv_spec, enterDischarge_spec] at hq
    have hise : (s.guardOff q).ise.map (fun j => if j.verdict = .none then { j with removed := true } else j) =
        some { j with removed := true } := by simp [State.guardOff, hj, hv]
    rw [hise, refuseWaiting_none] at hq
    swap
    · exact hwait
    obtain ⟨q', hstrike⟩ := addStriking_guard _
    have hopen := hq.trans ((if_pos (Bool.and_eq_true_iff.mpr ⟨hlive, rfl⟩)).trans hstrike)
    obtain ⟨k, hk⟩ := command_flk (f := guardOpened) hopen (guardHeld_settled hset) hreq id
    refine ⟨_, hk, rfl, rfl, rfl, rfl, rfl, rfl, fun hg hen => ?_, rfl, rfl, rfl, rfl⟩
    simp [State.guardHeld, State.guardOff, hg, hen]

end Sys2Proof.Machine
end

section
/-! PROOFS. A discharge fault, and a trip, while a disable of the printer is pending in IDLE: O48 and O50 are refuted. -/

namespace Sys2Proof.Machine

/-! The records DISCHG and TRIP are print-marked, and wake an IDLE print engine as the record of a stuck relay does
(`not_readbackQuarantinesWhatFailed`). The premises of both statements leave the printer free: with a disable held pending
there and no paper, the disable takes effect within the same command (R191, R182), and a record that was only print-marked
leaves the log. -/

/-- The unit of net 5 in its energisation: 500 V, localise off. -/
def unitJob : InsulJob :=
  { p := { first := 1, last := 1024, volts := 500, slew := 500, dwell := 1000, rmin := 1000, n := 3, arcThr := 10,
           arcCount := 3, tripLevel := 20, tripDelay := 0, localise := false }
    nets := [5], net := 5, cands := [64], anchor := 0, verdict := .none,
    meas := { value := 0, bound := .none, range := 0 }, unitMeas := { value := 0, bound := .none, range := 0 },
    leak := .ir0, low := 0, discard := false, reported := [], stage := .unit, phase := .energising, removed := false,
    timedOut := false }

/-- That energisation in this state of the HVC, the printer as in `idleDisablePending`. -/
def unitDisablePending (st : HvState) (timer : Bool) : State :=
  { idleDisablePending with
    mxc := .reset
    rnc := { idleDisablePending.rnc with unit := some .insulation }
    cte := .none
    ise := some unitJob
    hvc := { Hvc.reset with
      state := st, timer := timer, energised := true
      energ := { target := 500000, slew := 500, dwell := 1000, tripLevel := 20000000, arcThr := 10000000, tripDelay := 0,
                 arcLimit := 3 } } }

theorem unitDisablePending_calm (st : HvState) (timer : Bool) : (unitDisablePending st timer).calm :=
  ⟨⟨rfl, fun _ => Or.inr ⟨headedSlot, [], rfl, rfl, rfl, Or.inl rfl⟩, Or.inl rfl, nofun⟩, rfl⟩

/-- The discharge fault's DISCHG record leaves one record in the log: the old one has left. -/
theorem dischargeFault_disablePending {t : State}
    (h : exec .dischargeFault (unitDisablePending .discharge true) = .next t) : t.dlg.recs.length = 1 := by
  have hlen : (match exec .dischargeFault (unitDisablePending .discharge true) with
    | .next t => t.dlg.recs.length
    | _ => 0) = 1 := by decide
  rwa [h] at hlen

/-- The TRIP record of a reading of 30 mA leaves one record in the log: the old one has left. -/
theorem trip_disablePending {t : State} (h : exec (.fastReading 30000) (unitDisablePending .dwell false) = .next t) :
    t.dlg.recs.length = 1 := by
  have hlen : (match exec (.fastReading 30000) (unitDisablePending .dwell false) with
    | .next t => t.dlg.recs.length
    | _ => 0) = 1 := by decide
  rwa [h] at hlen

/-- Refutes O48: with a disable of the printer pending in IDLE, the record DISCHG does not join the log as it was, for a record
that was only print-marked leaves it (`dischargeFault_disablePending`). -/
theorem not_dischargeFaultLatches : ¬Obligations.DischargeFaultLatches := by
  unfold Obligations.DischargeFaultLatches
  intro h
  obtain ⟨-, hfault⟩ := h (unitDisablePending .discharge true) (unitDisablePending_calm _ _)
  obtain ⟨-, -, hunit, -⟩ := hfault rfl rfl
  obtain ⟨t, rec, ht, -, ⟨-, -, -, hlog, -⟩, -⟩ := hunit unitJob rfl rfl rfl rfl rfl rfl (by decide) rfl
  have hlen := dischargeFault_disablePending ht
  rw [hlog (Or.inr (by decide))] at hlen
  simp [unitDisablePending, idleDisablePending] at hlen

/-- Refutes O50: with a disable of the printer pending in IDLE, the record TRIP does not join the log as it was, for a record
that was only print-marked leaves it (`trip_disablePending`). -/
theorem not_fastReadingTripsAndArcs : ¬Obligations.FastReadingTripsAndArcs := by
  unfold Obligations.FastReadingTripsAndArcs
  intro h
  obtain ⟨-, -, -, hverdict⟩ := h (unitDisablePending .dwell false) 30000 (unitDisablePending_calm _ _)
  obtain ⟨htrip, -⟩ := hverdict unitJob rfl rfl rfl rfl rfl rfl rfl rfl
  obtain ⟨t, ht, -, -, ⟨rec, -, -, -, -, -, -, -, -, -, hlog, -⟩, -⟩ := htrip (by decide)
  have hlen := trip_disablePending ht
  rw [hlog (Or.inr (by decide))] at hlen
  simp [unitDisablePending, idleDisablePending] at hlen

end Sys2Proof.Machine
end

section
/-! PROOFS. The marks of records (R175 to R177): the first record that is looked for, with one of its marks changed; and what
becomes of a slot that frees (R172 to R174). -/

namespace Sys2Proof.Machine

/-- The first record that satisfies `p`, and the log with that record changed by `f`. -/
def markFirst (p : Rec → Bool) (f : Rec → Rec) : List Rec → Option (Rec × List Rec)
  | [] => none
  | r :: rs =>
    if p r then some (r, f r :: rs)
    else match markFirst p f rs with
      | some (x, rs') => some (x, r :: rs')
      | none => none

theorem takeHost_eq (rs : List Rec) :
    takeHost rs = markFirst (fun r => r.host && !r.inStream) (fun r => { r with host := false }) rs := by
  induction rs with
  | nil => rfl
  | cons r rs ih => cases h : takeHost rs <;> simp [takeHost, markFirst, ← ih, h]

theorem markStream_eq (rs : List Rec) :
    markStream rs = markFirst (fun r => r.host && !r.inStream) (fun r => { r with inStream := true }) rs := by
  induction rs with
  | nil => rfl
  | cons r rs ih => cases h : markStream rs <;> simp [markStream, markFirst, ← ih, h]

theorem takePrint_eq (run : Nat) (rs : List Rec) :
    takePrint run rs = markFirst (fun r => r.print && r.run == run) (fun r => { r with inPrint := true }) rs := by
  induction rs with
  | nil => rfl
  | cons r rs ih => cases h : takePrint run rs <;> simp [takePrint, markFirst, ← ih, h]

section
variable {p : Rec → Bool} {f : Rec → Rec}

theorem markFirst_eq_none {rs : List Rec} : markFirst p f rs = none ↔ ∀ r ∈ rs, p r = false := by
  induction rs with
  | nil => simp [markFirst]
  | cons r rs ih =>
    cases hp : p r
    · cases hm : markFirst p f rs <;> simp [markFirst, hp, hm, ← ih]
    · simp [markFirst, hp]

/-- Records before it are passed over. -/
theorem markFirst_append {xs ys : List Rec} {r : Rec} (hxs : ∀ x ∈ xs, p x = false) (hr : p r = true) :
    markFirst p f (xs ++ r :: ys) = some (r, xs ++ f r :: ys) := by
  induction xs with
  | nil => simp [markFirst, hr]
  | cons x xs ih =>
    have ih := ih fun y hy => hxs y (List.mem_cons_of_mem x hy)
    simp [markFirst, hxs x List.mem_cons_self, ih]

theorem markFirst_eq_some {rs rs' : List Rec} {x : Rec} (h : markFirst p f rs = some (x, rs')) :
    ∃ xs ys, rs = xs ++ x :: ys ∧ rs' = xs ++ f x :: ys := by
  induction rs generalizing rs' with
  | nil => cases h
  | cons r rs ih =>
    cases hp : p r
    · simp only [markFirst, hp, Bool.false_eq_true, if_false] at h
      split at h
      · rename_i hm
        cases h
        obtain ⟨xs, ys, rfl, rfl⟩ := ih hm
        exact ⟨r :: xs, ys, rfl, rfl⟩
      · cases h
    · rw [markFirst, if_pos hp] at h
      cases h
      exact ⟨[], rs, rfl, rfl⟩

theorem markFirst_length {rs rs' : List Rec} {x : Rec} (h : markFirst p f rs = some (x, rs')) :
    rs'.length = rs.length := by
  obtain ⟨xs, ys, rfl, rfl⟩ := markFirst_eq_some h
  simp

/-- What the change keeps of each record, the log keeps. -/
theorem markFirst_keeps {q : Rec → Prop} {rs rs' : List Rec} {x : Rec} (h : markFirst p f rs = some (x, rs'))
    (hq : ∀ r ∈ rs, q r) (hf : ∀ r, q r → q (f r)) : ∀ r ∈ rs', q r := by
  obtain ⟨xs, ys, rfl, rfl⟩ := markFirst_eq_some h
  simp only [List.forall_mem_append, List.forall_mem_cons] at hq ⊢
  obtain ⟨hxs, hx, hys⟩ := hq
  exact ⟨hxs, hf x hx, hys⟩

end

theorem clearStreamed_length (rs : List Rec) : (clearStreamed rs).length = rs.length := by
  induction rs with
  | nil => rfl
  | cons r rs ih =>
    unfold clearStreamed
    split
    · rfl
    · exact congrArg (· + 1) ih

/-! ### Slots that free (R172 to R174) -/

theorem Dlg.freeSlots_pos_iff {d : Dlg} : 0 < d.freeSlots ↔ d.recs.length + (if d.reserved then 1 else 0) < 256 := by
  unfold Dlg.freeSlots Config.logSlots
  omega

/-- The records without a mark have left the log (R172). -/
def State.kept (s : State) : State := { s with dlg.recs := s.dlg.recs.filter fun r => r.host || r.print }

/-- A record in the entry place has taken a free slot, and its engine goes on (R173, R174). -/
def State.entryTaken (s : State) : State :=
  match s.dlg.entry with
  | some r =>
    if 0 < s.dlg.freeSlots then { s with dlg.recs := s.dlg.recs ++ [r], dlg.entry := none, dlg.heldBack := none } else s
  | none => s

/-- With every record marked no slot frees. -/
theorem sweep_marked {s : State} (h : ∀ r ∈ s.dlg.recs, (r.host || r.print) = true) : sweep s = s :=
  if_pos (List.length_filter_eq_length_iff.mpr h)

/-- A record without a mark leaves; the entry place is served, and LOG_FULL leaves the hold set when a slot is still free. -/
theorem sweep_leaves {s : State} (h : ¬∀ r ∈ s.dlg.recs, (r.host || r.print) = true) : sweep s =
    if s.kept.entryTaken.dlg.entry.isNone && 0 < s.kept.entryTaken.dlg.freeSlots then
      removeHold [.logFull] s.kept.entryTaken
    else s.kept.entryTaken :=
  if_neg (mt List.length_filter_eq_length_iff.mp h)

end Sys2Proof.Machine
end

section
/-! PROOFS. What the device holds stays within its limits (R172, R173, R86, R196, R197, R202, R184), and a run within its own
(R100, R104): the run controller and the log. -/

namespace Sys2Proof.Machine

/-! ### The limits within a command -/

/-- How a run stands to its limit, in the middle of a command (R100, R104). -/
inductive Course where
  /-- a live run may create one more record -/
  | running
  /-- the records of an event with its own end cause are made, and may have reached the limit -/
  | filled
  /-- the run has taken its end cause, and waits for the bus no more -/
  | closing

/-- The six laws of the limits, the run's own as far as its course has come. -/
structure State.Bounded (c : Course) (s : State) : Prop where
  log : s.logLaw
  marks : s.marksLaw
  plan : s.planLaw
  link : s.linkLaw
  slots : s.slotsLaw
  limit : 1 ≤ s.rnc.limit
  total : s.active = true → s.rnc.total ≤ s.rnc.limit
  waits : Waiter.rnc ∈ s.hvc.waiters → s.rnc.state = .running ∧ s.rnc.verdict ≠ .none
  below : c = .running → s.live = true → s.rnc.total < s.rnc.limit
  closing : c = .closing → s.rnc.verdict ≠ .none ∧ s.rnc.total ≤ s.rnc.limit ∧ Waiter.rnc ∉ s.hvc.waiters

/-- The laws as they are stated, between commands. -/
theorem State.bounded_running_iff {s : State} : s.Bounded .running ↔
    s.logLaw ∧ s.planLaw ∧ s.linkLaw ∧ s.limitLaw ∧ s.marksLaw ∧ s.slotsLaw :=
  ⟨fun h => ⟨h.log, h.plan, h.link, ⟨h.limit, h.total, h.below rfl, h.waits⟩, h.marks, h.slots⟩,
    fun ⟨hlog, hplan, hlink, ⟨hlimit, htotal, hlive, hwaits⟩, hmarks, hslots⟩ =>
      ⟨hlog, hmarks, hplan, hlink, hslots, hlimit, htotal, hwaits, fun _ => hlive, nofun⟩⟩

/-- What the limits speak of, but for the waiters. -/
def State.figures (s : State) :=
  ((s.dlg.recs, s.dlg.entry, s.dlg.reserved), (s.rnc.plan, s.rnc.limit, s.rnc.total, s.rnc.state, s.rnc.verdict),
    (s.flk.requests, s.flk.discards, s.flk.wdPeriod), s.pre.slots.length)

/-- All that the limits speak of. -/
def State.limited (s : State) := (s.figures, Waiter.rnc ∈ s.hvc.waiters)

theorem State.active_of_live {s : State} (h : s.live = true) : s.active = true := by
  obtain ⟨hs | hs, -⟩ := s.live_iff.mp h <;> simp [State.active, hs]

theorem State.not_live {s : State} (h : s.rnc.verdict ≠ .none) : s.live = false :=
  Bool.eq_false_iff.mpr fun hl => h (s.live_iff.mp hl).2

section
variable {c : Course} {s t : State}

/-- An operation that changes none of the figures, and has the run controller wait for nothing new. -/
theorem State.Bounded.of_figures (h : s.Bounded c) (hf : t.figures = s.figures)
    (hw : Waiter.rnc ∈ t.hvc.waiters → Waiter.rnc ∈ s.hvc.waiters) : t.Bounded c := by
  simp only [State.figures, Prod.mk.injEq] at hf
  obtain ⟨⟨hrecs, hentry, hres⟩, ⟨hplan, hlimit, htotal, hstate, hverd⟩, ⟨hreq, hdisc, hwd⟩, hslots⟩ := hf
  have hactive : t.active = s.active := by rw [State.active, State.active, hstate]
  have hlive : t.live = s.live := by rw [State.live, State.live, hstate, hverd]
  obtain ⟨hlog, hmarks, hplanLaw, hlink, hslotsLaw, hone, htotalLaw, hwaits, hbelow, hclosing⟩ := h
  refine ⟨?_, ?_, ?_, ?_, ?_, ?_, ?_, ?_, ?_, fun hc => ?_⟩
  · rwa [State.logLaw, hrecs, hres]
  · rwa [State.marksLaw, hrecs, hentry]
  · rwa [State.planLaw, hplan]
  · rwa [State.linkLaw, hreq, hdisc, hwd]
  · rwa [State.slotsLaw, hslots]
  · rwa [hlimit]
  · rwa [hactive, htotal, hlimit]
  · rw [hstate, hverd]; exact hwaits ∘ hw
  · rwa [hlive, htotal, hlimit]
  · rw [hverd, htotal, hlimit]
    obtain ⟨hv, hle, hno⟩ := hclosing hc
    exact ⟨hv, hle, hno ∘ hw⟩

/-- An operation that changes nothing the limits speak of. -/
theorem State.Bounded.same (h : s.Bounded c) (hv : t.limited = s.limited) : t.Bounded c := by
  obtain ⟨hf, hw⟩ := Prod.mk.inj hv
  exact h.of_figures hf hw.mp

theorem State.Bounded.ite {p : Prop} [Decidable p] (hs : s.Bounded c) (ht : t.Bounded c) :
    (if p then s else t).Bounded c := by split <;> assumption

/-- A live run is not waited for by the run controller (R104). -/
theorem State.Bounded.not_waiting (h : s.Bounded c) (hno : s.rnc.state ≠ .running ∨ s.rnc.verdict = .none) :
    Waiter.rnc ∉ s.hvc.waiters := fun hw => by
  obtain ⟨hrun, hv⟩ := h.waits hw
  exact hno.elim (absurd hrun) hv

theorem State.Bounded.filled (h : s.Bounded c) : s.Bounded .filled := { h with below := nofun, closing := nofun }

/-- A run that is not live makes no record (R100). -/
theorem State.Bounded.dead (h : s.Bounded c) (hd : s.live = false) : s.Bounded .running :=
  { h with below := fun _ hl => absurd (hd.symm.trans hl) nofun, closing := nofun }

theorem State.Bounded.closed (h : s.Bounded .closing) : s.Bounded .running := h.dead (State.not_live (h.closing rfl).1)

/-- What is within the limits as a live run's state is so wherever the run has not closed out. -/
theorem State.Bounded.of_running (h : s.Bounded .running) (hc : c ≠ .closing) : s.Bounded c :=
  { h with below := fun _ => h.below rfl, closing := fun h => absurd h hc }

/-- A run without an end cause is not closing out. -/
theorem State.Bounded.not_closing (h : s.Bounded c) (hv : s.rnc.verdict = .none) : c ≠ .closing :=
  fun hc => (h.closing hc).1 hv

/-- A run that closes out may wait for the bus (R104). -/
theorem State.Bounded.awaits (h : s.Bounded .closing) (hrun : s.rnc.state = .running) (hf : t.figures = s.figures) :
    t.Bounded .running := by
  have hwait : ({ s with hvc.waiters := [.rnc] } : State).Bounded .running :=
    { h.closed with waits := fun _ => ⟨hrun, (h.closing rfl).1⟩, closing := nofun }
  exact hwait.of_figures hf fun _ => List.mem_singleton_self _

/-! ### Notices, windows, high voltage -/

theorem bounded_raise (k : NoticeKind) (p : List Byte) (h : s.Bounded c) : (raise k p s).Bounded c := by
  obtain ⟨q, hq⟩ := raise_spec k p s
  rw [hq]; exact h.same rfl

theorem bounded_raiseRun (h : s.Bounded c) : (raiseRun s).Bounded c := bounded_raise _ _ h

theorem bounded_raisePrinter (h : s.Bounded c) : (raisePrinter s).Bounded c := bounded_raise _ _ h

theorem bounded_latchCause (x : Cause) (h : s.Bounded c) : (latchCause x s).Bounded c := by
  obtain ⟨q, hq⟩ := latchCause_spec x s
  rw [hq]; exact h.same rfl

theorem bounded_addHold (r : HoldReason) (h : s.Bounded c) : (addHold r s).Bounded c := by
  obtain ⟨q, hq⟩ := addHold_spec r s
  rw [hq]; exact h.same rfl

theorem bounded_addStriking (r : HoldReason) (h : s.Bounded c) : (addStriking r s).Bounded c := by
  obtain ⟨q, hq⟩ := addStriking_spec r s
  rw [hq]; exact h.same rfl

/-- A withdrawn requester waits no more (R29, R137). -/
theorem bounded_withdraw (w : Waiter) (h : s.Bounded c) : (withdraw w s).Bounded c := h.of_figures rfl List.mem_of_mem_filter

theorem bounded_releaseWindow (o : Owner) (h : s.Bounded c) : (releaseWindow o s).Bounded c := by
  obtain ⟨-, heq⟩ | heq := releaseWindow_cases o s <;> rw [heq]
  · exact (bounded_withdraw .msu (h.same (t := { s with msu.busWait := false }) rfl)).same rfl
  · exact h.same rfl

theorem bounded_removeIfUp (h : s.Bounded c) : (removeIfUp s).Bounded c := .ite (h.same rfl) h

theorem bounded_refuseWaiting (x : HvCause) (h : s.Bounded c) : (refuseWaiting x s).Bounded c := by
  unfold refuseWaiting
  split
  · exact h.same rfl
  · exact h

theorem disable_figures (w : Waiter) (s : State) : (disable w s).2.figures = s.figures := by
  obtain ⟨heq, -⟩ | ⟨heq, -⟩ | ⟨t, heq, -, -, -, -, -, hrnc, -, -, -, hdlg, hpre, hflk, -⟩ := disable_spec w s <;> rw [heq]
  simp only [State.figures, hrnc, hdlg, hpre, hflk]

/-- A disable request of the matrix or of the measurement unit joins the waiters, or none does (R137). -/
theorem bounded_disable {w : Waiter} (hw : w ≠ .rnc) (h : s.Bounded c) : (disable w s).2.Bounded c := by
  refine h.of_figures (disable_figures w s) ?_
  obtain ⟨heq, -⟩ | ⟨heq, -⟩ | ⟨t, heq, -, hws, -⟩ := disable_spec w s <;> rw [heq]
  · exact id
  · exact id
  · rw [hws]
    exact fun hin => (List.mem_append.mp hin).resolve_right fun hl => hw (List.mem_singleton.mp hl).symm

/-! ### The run controller (R98, R101, R104) -/

/-- The reservation ends, and its slot is free (R173). -/
theorem State.Bounded.unreserved (h : s.Bounded c) :
    ({ s with dlg := { s.dlg with reserved := false } } : State).Bounded c :=
  { h with log := le_trans (Nat.add_le_add_left (Nat.zero_le _) _) h.log }

theorem bounded_stopEngine (h : s.Bounded c) : (stopEngine s).Bounded c :=
  (bounded_releaseWindow .wte (bounded_releaseWindow .cte h)).unreserved.same rfl

theorem bounded_abortBatches (h : s.Bounded c) : (abortBatches s).Bounded c := by
  unfold abortBatches
  extract_lets s1
  split
  · exact h.same rfl
  · rename_i b _
    exact .ite (h.same rfl) (.ite (bounded_withdraw .mxc (h.same rfl)) (h.same rfl))

/-- A run changes between RUNNING and HELD while the run controller waits for nothing. -/
theorem State.Bounded.moved (h : s.Bounded c) (hs : s.rnc.state = .running ∨ s.rnc.state = .held)
    (ht : t.rnc.state = .running ∨ t.rnc.state = .held) (hno : Waiter.rnc ∉ s.hvc.waiters)
    (hv : t.limited = ({ s with rnc.state := t.rnc.state } : State).limited) : t.Bounded c := by
  have hactive : s.active = true := by obtain h | h := hs <;> simp [State.active, h]
  have hlive : ({ s with rnc.state := t.rnc.state } : State).live = s.live := by
    obtain h | h := hs <;> obtain h' | h' := ht <;> simp [State.live, h, h']
  have hmoved : ({ s with rnc.state := t.rnc.state } : State).Bounded c := { h with
    total := fun _ => h.total hactive
    waits := fun hw => absurd hw hno
    below := fun hc hl => h.below hc (hlive.symm.trans hl) }
  exact hmoved.same hv

theorem bounded_continueRun (h : s.Bounded c) (hheld : s.rnc.state = .held) : (continueRun s).Bounded c := by
  have hrun : ({ s with rnc.state := .running } : State).Bounded c :=
    h.moved (.inr hheld) (.inl rfl) (h.not_waiting (.inl (by rw [hheld]; nofun))) rfl
  unfold continueRun
  extract_lets _ s1
  have h1 : s1.Bounded c := bounded_raiseRun hrun
  exact .ite (h1.same rfl) h1

theorem bounded_removeHold (rs : List HoldReason) (h : s.Bounded c) : (removeHold rs s).Bounded c := by
  unfold removeHold
  extract_lets left _ s1
  have h1 : s1.Bounded c := bounded_raiseRun (h.same rfl)
  split
  · exact h
  · split
    · rename_i hgo
      exact bounded_continueRun h1 (of_decide_eq_true (Bool.and_eq_true_iff.mp hgo).1)
    · exact h1

/-- A run closing out enters ENDING when the bus is safe or never will be (R104). -/
theorem bounded_enterEnding (h : s.Bounded .closing) : (enterEnding s).Bounded .closing := by
  obtain ⟨q, hq⟩ := enterEnding_eq s
  obtain ⟨-, htotal, hno⟩ := h.closing rfl
  rw [hq]
  exact { h with total := fun _ => htotal, waits := fun hw => absurd hw hno, below := nofun }

theorem bounded_overrideFault (h : s.Bounded .closing) : (overrideFault s).Bounded .closing := by
  obtain ⟨-, htotal, hno⟩ := h.closing rfl
  exact { h with waits := fun hw => absurd hw hno, below := nofun, closing := fun _ => ⟨nofun, htotal, hno⟩ }

/-- A live run that takes its end cause closes out (R101). -/
theorem State.Bounded.ends {v : Verdict} (h : s.Bounded c) (hlive : s.live = true) (hv : v ≠ .none) (why : EndReason) :
    ({ s with rnc.verdict := v, rnc.reason := why } : State).Bounded .closing := by
  have hno := h.not_waiting (.inr (s.live_iff.mp hlive).2)
  exact { h with
    waits := fun hw => absurd hw hno
    below := nofun
    closing := fun _ => ⟨hv, h.total (State.active_of_live hlive), hno⟩ }

/-- It is RUNNING as it asks for a safe bus, its engine stopped and its batches aborted. -/
theorem endCause_asks {v : Verdict} (hv : v ≠ .none) (why : EndReason) (h : s.Bounded c) (hlive : s.live = true) :
    ∃ t, endCause v why s = closeWith (disable .rnc t) ∧ t.Bounded .closing ∧ t.rnc.state = .running := by
  have h1 := h.ends hlive hv why
  obtain ⟨q2, h2⟩ := holdEmptied_eq { s with rnc.verdict := v, rnc.reason := why }
  obtain ⟨q3, h3⟩ := backRunning_eq (s := { s with
    rnc := { s.rnc with verdict := v, reason := why, hold := .empty }, flk := { s.flk with notices := q2 } })
    (s.live_iff.mp hlive).1
  refine ⟨abortBatches (stopEngine { s with
    rnc := { s.rnc with verdict := v, reason := why, hold := .empty, state := .running }
    flk := { s.flk with notices := q3 }, gsu := .idle }), ?_, bounded_abortBatches (bounded_stopEngine ?_), ?_⟩
  · unfold endCause
    rw [if_neg (by simp [hlive])]
    dsimp only at h2 h3 ⊢
    rw [h2, h3]
    rfl
  · exact h1.moved (s.live_iff.mp hlive).1 (.inl rfl) (h1.closing rfl).2.2 rfl
  · obtain ⟨-, -, -, -, habort, -⟩ := abortBatches_keeps (stopEngine { s with
      rnc := { s.rnc with verdict := v, reason := why, hold := .empty, state := .running }
      flk := { s.flk with notices := q3 }, gsu := .idle })
    obtain ⟨-, -, -, -, -, -, -, -, -, hstop, -⟩ := stopEngine_keeps { s with
      rnc := { s.rnc with verdict := v, reason := why, hold := .empty, state := .running }
      flk := { s.flk with notices := q3 }, gsu := .idle }
    rw [habort, hstop]

/-- The end cause taken: the run closes out, and waits for the bus if it must (R101, R104). -/
theorem bounded_endCause_running {v : Verdict} (hv : v ≠ .none) (why : EndReason) (h : s.Bounded c) :
    (endCause v why s).Bounded .running := by
  cases hlive : s.live with
  | false =>
    have hno : endCause v why s = s := if_pos (by simp [hlive])
    rw [hno]
    exact h.dead hlive
  | true =>
    obtain ⟨t, heq, ht, hrun⟩ := endCause_asks hv why h hlive
    have hfig := disable_figures .rnc t
    rw [heq]
    obtain ⟨hd, -⟩ | ⟨hd, -⟩ | ⟨u, hd, -⟩ := disable_spec .rnc t <;> rw [hd] at hfig ⊢
    · exact (bounded_enterEnding ht).closed
    · exact (bounded_enterEnding (bounded_overrideFault ht)).closed
    · exact ht.awaits hrun hfig

/-- Wherever the run stands: one that closes out takes no other end cause (R101). -/
theorem bounded_endCause {v : Verdict} (hv : v ≠ .none) (why : EndReason) (h : s.Bounded c) :
    (endCause v why s).Bounded c := by
  by_cases hc : c = .closing
  · have hd : s.live = false := State.not_live (h.closing hc).1
    have hno : endCause v why s = s := if_pos (by simp [hd])
    rwa [hno]
  · exact (bounded_endCause_running hv why h).of_running hc

theorem bounded_completeRun (h : s.Bounded c) : (completeRun s).Bounded c :=
  bounded_endCause (by split <;> nofun) .completed h

/-! ### Records (R100, R171, R173) -/

/-- A record takes the slot reserved, a free one, or none (R172, R173). -/
theorem bounded_enterLog {r : Rec} (hr : r.host = true) (h : s.Bounded c) : (enterLog r s).Bounded c := by
  have hlog := h.log
  obtain ⟨hrecs, hentry⟩ := h.marks
  have hjoin : ∀ x ∈ s.dlg.recs ++ [r], x.host = true ∨ x.print = true := by
    simp only [List.forall_mem_append, List.forall_mem_singleton]
    exact ⟨hrecs, .inl hr⟩
  obtain ⟨hres, heq⟩ | ⟨hres, -, hfree, heq⟩ | ⟨-, -, heq⟩ := enterLog_spec r s <;> rw [heq]
  · exact { h with log := by simpa [State.logLaw, hres] using hlog, marks := ⟨hjoin, hentry⟩ }
  · have hlt := (Dlg.freeSlots_pos hres).mp hfree
    exact { h with log := by simpa [State.logLaw, hres] using hlt, marks := ⟨hjoin, hentry⟩ }
  · exact { h with marks := ⟨hrecs, fun x hx => by cases hx; exact hr⟩ }

/-- The record of a run below its limit may reach it (R100). -/
theorem bounded_putRecord (d : Draft) (h : s.Bounded c) (hlt : s.rnc.total < s.rnc.limit) :
    (putRecord d s).Bounded .filled :=
  bounded_enterLog (s := countRec d.kind s) rfl { h.filled with total := fun _ => hlt, below := nofun, closing := nofun }

theorem State.not_recordable (h : ¬s.atWork) : (!s.recordable) = true := by
  simp only [State.recordable, Bool.not_eq_true', Bool.and_eq_false_iff, beq_eq_false_iff_ne]
  exact not_and_or.mp h

/-- A record of a run below its limit: the limit reached ends the run (R100). -/
theorem bounded_createRecord_below (d : Draft) (h : s.Bounded c) (hlt : s.live = true → s.rnc.total < s.rnc.limit) :
    (createRecord d s).Bounded c := by
  by_cases hw : s.atWork
  · have hc : c ≠ .closing := h.not_closing hw.2
    have hput : (putRecord d s).Bounded .filled := bounded_putRecord d h (hlt hw.live)
    have hgoes (hne : s.rnc.total + 1 ≠ s.rnc.limit) : (putRecord d s).Bounded .running :=
      { hput with
        below := fun _ _ => by rw [putRecord_rnc]; exact lt_of_le_of_ne (hlt hw.live) hne
        closing := nofun }
    refine State.Bounded.of_running ?_ hc
    obtain ⟨-, heq⟩ | ⟨hne, -, heq⟩ | ⟨hne, -, heq⟩ := createRecord_cases d hw <;> rw [heq]
    · exact bounded_endCause_running (ite_verdict_ne_none _) _ hput
    · exact hgoes hne
    · exact bounded_addHold _ (hgoes hne)
  · have hno : createRecord d s = s := if_pos (State.not_recordable hw)
    rwa [hno]

theorem bounded_createRecord (d : Draft) (h : s.Bounded .running) : (createRecord d s).Bounded .running :=
  bounded_createRecord_below d h (h.below rfl)

theorem State.Bounded.below_of_ne (h : s.Bounded c) (hne : s.rnc.total ≠ s.rnc.limit) (hl : s.live = true) :
    s.rnc.total < s.rnc.limit := lt_of_le_of_ne (h.total (State.active_of_live hl)) hne

theorem bounded_createRecords (ds : List Draft) (h : s.Bounded c) : (createRecords ds s).Bounded c := by
  induction ds generalizing s with
  | nil => exact h
  | cons d ds ih =>
    unfold createRecords
    split
    · exact h
    · rename_i hne
      exact ih (bounded_createRecord_below d h (h.below_of_ne fun he => hne (by simp [he])))

/-- The records of an event with its own end cause may reach the limit; a run that closes out makes none (R100). -/
theorem bounded_createOwn (ds : List Draft) (h : s.Bounded c) (hc : c ≠ .running) : (createOwn ds s).Bounded c := by
  induction ds generalizing s with
  | nil => exact h
  | cons d ds ih =>
    unfold createOwn
    split
    · exact h
    · rename_i hgo
      have hw : s.atWork := by
        by_contra hno
        exact hgo (by simp [State.not_recordable hno])
      have hne : s.rnc.total ≠ s.rnc.limit := fun he => hgo (by simp [he])
      have hput := bounded_putRecord d h (h.below_of_ne hne hw.live)
      exact ih { hput with below := fun h => absurd h hc, closing := fun hcl => absurd hcl (h.not_closing hw.2) }

/-! ### The permit (R97) -/

theorem bounded_enterHeld (h : s.Bounded c) (hlive : s.live = true) : (enterHeld s).Bounded c := by
  obtain ⟨hs, hv⟩ := s.live_iff.mp hlive
  exact bounded_raiseRun (h.moved hs (.inr rfl) (h.not_waiting (.inr hv)) rfl)

/-- A permit reserves a slot that is free, and holds a live run alone (R97, R173). -/
theorem bounded_permit (k : UnitKind) (h : s.Bounded c) : (permit k s).2.Bounded c := by
  have hfree : ({ s with dlg := { s.dlg with reserved := false } } : State).Bounded c := h.unreserved
  cases hlive : s.live with
  | false => rw [permit_stopped k hlive]; exact hfree.same rfl
  | true =>
    obtain ⟨hrun | hheld, hverd⟩ := s.live_iff.mp hlive
    · by_cases hc : s.rnc.hold.join (s.checks k) = .empty
      · obtain ⟨-, hchecks⟩ := HoldSet.join_eq_empty.mp hc
        obtain ⟨-, hlt, -⟩ := State.checks_eq_empty.mp hchecks
        rw [permit_granted ⟨hrun, hverd⟩ hc]
        exact { h with log := hlt }
      · obtain ⟨q, hq⟩ := permit_parked ⟨hrun, hverd⟩ hc
        rw [hq]
        exact hfree.moved (.inl hrun) (.inr rfl) (h.not_waiting (.inr hverd)) rfl
    · rw [permit_held k hheld hverd]
      exact hfree.same rfl

theorem bounded_heldAtEnd (h : s.Bounded c) : (heldAtEnd s).Bounded c := by
  obtain ⟨-, heq⟩ | ⟨-, -, ⟨hgo, q, heq⟩ | ⟨-, heq⟩⟩ := heldAtEnd_spec s <;> rw [heq]
  · exact h
  · have hw : s.atWork := by
      simp only [State.recordable, Bool.and_eq_true, beq_iff_eq] at hgo
      exact hgo.1
    exact h.moved (.inl hw.1) (.inr rfl) (h.not_waiting (.inr hw.2)) rfl
  · exact h.same rfl

/-! ### Slots that free (R172, R174, R178) -/

/-- Records left in their places, with a mark each. -/
theorem State.Bounded.marked (h : s.Bounded c) {recs : List Rec} (hlen : recs.length = s.dlg.recs.length)
    (hm : ∀ r ∈ recs, r.host = true ∨ r.print = true) :
    ({ s with dlg := { s.dlg with recs := recs } } : State).Bounded c :=
  { h with log := by rw [State.logLaw, hlen]; exact h.log, marks := ⟨hm, h.marks.2⟩ }

/-- A record in the entry place takes a free slot (R173, R174). -/
theorem bounded_entryTaken (h : s.Bounded c) : s.entryTaken.Bounded c := by
  unfold State.entryTaken
  obtain ⟨hrecs, hentry⟩ := h.marks
  split
  · rename_i r hr
    split
    · rename_i hfree
      have hlt := Dlg.freeSlots_pos_iff.mp hfree
      have hlog : (s.dlg.recs ++ [r]).length + (if s.dlg.reserved then 1 else 0) ≤ 256 := by
        rw [List.length_append, List.length_singleton]
        omega
      have hmarks : ∀ x ∈ s.dlg.recs ++ [r], x.host = true ∨ x.print = true :=
        List.forall_mem_append.mpr ⟨hrecs, List.forall_mem_singleton.mpr (.inl (hentry r hr))⟩
      exact { h with log := hlog, marks := ⟨hmarks, fun _ hx => nomatch hx⟩ }
    · exact h
  · exact h

/-- Whatever marks were cleared, the records without one leave, and one in the entry place takes a free slot alone. -/
theorem bounded_sweep (h : s.Bounded c) {recs : List Rec} {entry : Option Rec} (hlen : recs.length = s.dlg.recs.length)
    (hentry : ∀ r, entry = some r → r.host = true) :
    (sweep { s with dlg := { s.dlg with recs := recs, entry := entry } }).Bounded c := by
  have hlog : recs.length + (if s.dlg.reserved then 1 else 0) ≤ 256 := by rw [hlen]; exact h.log
  by_cases hall : ∀ r ∈ recs, (r.host || r.print) = true
  · rw [sweep_marked hall]
    exact { h with log := hlog, marks := ⟨fun r hr => Bool.or_eq_true_iff.mp (hall r hr), hentry⟩ }
  · rw [sweep_leaves hall]
    have hkept : ({ s with dlg := { s.dlg with recs := recs, entry := entry } } : State).kept.Bounded c :=
      { h with
        log := le_trans (Nat.add_le_add_right (List.length_filter_le _ _) _) hlog
        marks := ⟨fun r hr => Bool.or_eq_true_iff.mp (List.mem_filter.mp hr).2, hentry⟩ }
    exact .ite (bounded_removeHold _ (bounded_entryTaken hkept)) (bounded_entryTaken hkept)

theorem bounded_clearPrintMarks (h : s.Bounded c) : (clearPrintMarks s).Bounded c :=
  bounded_sweep h (List.length_map _) fun r hr => by
    obtain ⟨x, hx, rfl⟩ := Option.map_eq_some_iff.mp hr
    exact h.marks.2 x hx

end
end Sys2Proof.Machine
end

section
/-! PROOFS. Every act of the engines keeps the limits; so do PROBE, the ends of windows, samples and insulation readings. -/

namespace Sys2Proof.Machine

section
variable {c : Course} {s : State}

/-! ### The group search -/

theorem bounded_searchTake (h : s.Bounded c) : (searchTake s).Bounded c := by
  unfold searchTake
  split <;> exact h.same rfl

theorem bounded_searchStart (x : Caller) (cands driven : List Nat) (h : s.Bounded c) :
    (searchStart x cands driven s).Bounded c :=
  .ite (h.same rfl) (.ite (h.same rfl) (bounded_searchTake (h.same rfl)))

theorem bounded_searchSettled (ok noDrive : Bool) (h : s.Bounded c) : (searchSettled ok noDrive s).Bounded c :=
  .ite h (.ite (h.same rfl) (.ite (h.same rfl) (h.same rfl)))

theorem bounded_searchAnswer (a : Answer3) (h : s.Bounded c) : (searchAnswer a s).Bounded c := by
  unfold searchAnswer
  split
  · cases a with
    | negative => exact bounded_searchTake (h.same rfl)
    | positive m => exact .ite (h.same rfl) (bounded_searchTake (h.same rfl))
    | notMeasured => exact h.same rfl
    | abandon => exact h.same rfl
  · exact h

/-! ### Steps, and what an engine decides -/

theorem bounded_startStep (h : s.Bounded c) : (startStep s).Bounded c := by
  unfold startStep
  split
  case h_4 => exact bounded_completeRun h
  all_goals exact h.same rfl

theorem bounded_stepDone (h : s.Bounded c) : (stepDone s).Bounded c :=
  .ite (bounded_startStep (h.same rfl)) (bounded_completeRun (h.same rfl))

theorem bounded_contNextNet (j : ContJob) (h : s.Bounded c) : (contNextNet j s).Bounded c := by
  unfold contNextNet
  split
  · exact h.same rfl
  · exact bounded_stepDone h

theorem bounded_contDecide (j : ContJob) (h : s.Bounded c) : (contDecide j s).Bounded c := by
  unfold contDecide
  extract_lets ms us
  split
  · exact .ite (bounded_stepDone h) (.ite (h.same rfl) (h.same rfl))
  · split
    · exact h.same rfl
    · exact .ite (bounded_searchStart _ _ _ (h.same rfl)) (bounded_contNextNet j h)
  · exact bounded_contNextNet j h
  · exact h.same rfl
  · exact bounded_contNextNet j h

theorem bounded_cteDecide (h : s.Bounded c) : (cteDecide s).Bounded c := by
  unfold cteDecide zeroDecide learnDecide
  split
  · exact h
  · exact bounded_contDecide _ h
  · split
    · exact h.same rfl
    · exact bounded_completeRun (h.same rfl)
  · split
    · exact bounded_searchStart _ _ _ (h.same rfl)
    · exact bounded_completeRun (h.same rfl)

theorem bounded_insulNextNet (j : InsulJob) (h : s.Bounded c) : (insulNextNet j s).Bounded c := by
  unfold insulNextNet
  split
  · exact h.same rfl
  · exact bounded_stepDone h

theorem bounded_insulDecide (j : InsulJob) (h : s.Bounded c) : (insulDecide j s).Bounded c := by
  unfold insulDecide
  split
  · exact .ite (bounded_stepDone h) (.ite (bounded_insulNextNet j h) (.ite (h.same rfl) (h.same rfl)))
  · exact bounded_insulNextNet j h
  all_goals exact h.same rfl

theorem bounded_watchDecide (j : WatchJob) (h : s.Bounded c) : (watchDecide j s).Bounded c := by
  have hclosing : (beginClosing j s).Bounded c := (bounded_releaseWindow .wte h).same rfl
  unfold watchDecide
  split
  · refine .ite hclosing ?_
    split
    · exact hclosing
    · extract_lets j' p usable s1
      have h1 : s1.Bounded c := .ite h (bounded_releaseWindow .wte h)
      exact h1.same rfl
  · split
    · refine bounded_stepDone ?_
      split
      · exact h.same rfl
      · exact h
    · exact h.same rfl

theorem bounded_engineDecide (h : s.Bounded c) : (engineDecide s).Bounded c := by
  unfold engineDecide
  split
  · exact bounded_insulDecide _ h
  · exact bounded_watchDecide _ h
  · exact bounded_cteDecide h

/-! ### Permits -/

/-- GRANT asks for a batch, or names the next acts. -/
theorem bounded_granted (h : s.Bounded c) : (granted s).Bounded c := by
  unfold granted insulGranted watchGranted cteGranted contGranted searchProceed
  repeat' split
  all_goals exact h.same rfl

theorem bounded_parked (h : s.Bounded c) : (parked s).Bounded c := by
  unfold parked insulParked watchParked cteParked searchPark
  split
  case h_2 => exact (bounded_releaseWindow .wte h).same rfl
  all_goals
    repeat' split
    all_goals exact h.same rfl

theorem bounded_askPermit (h : s.Bounded c) : (askPermit s).Bounded c := by
  have hp : (permit (askKind s) (heldAtEnd s)).2.Bounded c := bounded_permit _ (bounded_heldAtEnd h)
  unfold askPermit
  split <;> rename_i t ht <;> rw [ht] at hp
  · exact bounded_granted hp
  · exact bounded_parked hp
  · exact bounded_stopEngine hp

/-! ### What the engines make of their events -/

theorem bounded_engineWindow (h : s.Bounded c) : (engineWindow s).Bounded c := by
  unfold engineWindow cteWindow
  repeat' split
  all_goals exact h.same rfl

theorem bounded_pairSettled (al ml : Bool) (j : ContJob) (h : s.Bounded c) : (pairSettled al ml j s).Bounded c :=
  .ite (.ite (h.same rfl) (h.same rfl)) (.ite (h.same rfl) (h.same rfl))

theorem bounded_zeroSettled (refLost pointLost : Bool) (j : ZeroJob) (h : s.Bounded c) :
    (zeroSettled refLost pointLost j s).Bounded c :=
  .ite (bounded_completeRun h) (.ite (h.same rfl) (h.same rfl))

theorem bounded_cteFound (q : Nat) (m : Meas) (h : s.Bounded c) : (cteFound q m s).Bounded c := by
  unfold cteFound learnFound
  split
  · exact h.same rfl
  · split
    · exact h.same rfl
    · exact .ite (h.same rfl) (bounded_endCause (v := .aborted) nofun _ h)
  · exact h

theorem bounded_cteSearchEnded (h : s.Bounded c) : (cteSearchEnded s).Bounded c := by
  unfold cteSearchEnded
  split
  · exact bounded_contNextNet _ h
  · exact h.same rfl
  · exact h

theorem bounded_iseEnergise (h : s.Bounded c) : (iseEnergise s).Bounded c := by
  unfold iseEnergise hvRequest
  repeat' split
  all_goals exact h.same rfl

theorem bounded_insulSettled (j : InsulJob) (h : s.Bounded c) : (insulSettled j s).Bounded c := by
  unfold insulSettled
  split
  · exact h.same rfl
  · exact bounded_insulNextNet j h

theorem bounded_insulSafe (j : InsulJob) (h : s.Bounded c) : (insulSafe j s).Bounded c := by
  have hlocalise : (startLocalise j s).Bounded c := .ite (h.same rfl) (bounded_searchStart _ _ _ (h.same rfl))
  unfold insulSafe
  split
  · exact h.same rfl
  · split
    · exact h.same rfl
    · exact .ite hlocalise (bounded_insulNextNet j h)
    · exact bounded_insulNextNet j h
  · exact h

theorem bounded_insulSearchEnded (e : SearchEnd) (n : Nat) (j : InsulJob) (h : s.Bounded c) :
    (insulSearchEnded e n j s).Bounded c := .ite (h.same rfl) (bounded_insulNextNet j h)

theorem bounded_insulRefused (j : InsulJob) (h : s.Bounded c) : (insulRefused j s).Bounded c := by
  unfold insulRefused
  split
  · exact h.same rfl
  · exact h.same rfl
  · exact h

theorem bounded_watchSettled (bad : Bool) (j : WatchJob) (h : s.Bounded c) : (watchSettled bad j s).Bounded c :=
  .ite ((bounded_releaseWindow .wte h).same rfl) (.ite (h.same rfl) (h.same rfl))

theorem bounded_reportUntest (p : Nat) (h : s.Bounded .running) : (reportUntest p s).Bounded .running := by
  have hreport : (report p s).Bounded .running := by
    unfold report
    repeat' split
    all_goals exact h.same rfl
  exact .ite h (bounded_createRecord _ hreport)

theorem bounded_pairUntest (j : WatchJob) (h : s.Bounded .running) : (pairUntest j s).Bounded .running :=
  bounded_createRecord _ ((bounded_releaseWindow .wte h).same rfl)

theorem bounded_runAct (a : Act) (h : s.Bounded .running) : (runAct a s).Bounded .running := by
  cases a with
  | decide => exact bounded_engineDecide h
  | ask => exact bounded_askPermit h
  | record d => exact bounded_createRecord d h
  | untest p => exact bounded_reportUntest p h
  | pairUntest => dsimp only [runAct]; split; exacts [bounded_pairUntest _ h, h]
  | window => exact bounded_engineWindow h
  | energise => exact bounded_iseEnergise h
  | pairSettled al ml => dsimp only [runAct]; split; exacts [bounded_pairSettled _ _ _ h, h]
  | zeroSettled rl pl => dsimp only [runAct]; split; exacts [bounded_zeroSettled _ _ _ h, h]
  | watchAdvance => dsimp only [runAct]; split; exacts [h.same rfl, h]
  | watchSettled bad => dsimp only [runAct]; split; exacts [bounded_watchSettled _ _ h, h]
  | insulSettled => dsimp only [runAct]; split; exacts [bounded_insulSettled _ h, h]
  | searchSettled ok nd => exact bounded_searchSettled _ _ h
  | searchNext => exact bounded_searchTake h
  | searchAnswer ans => exact bounded_searchAnswer _ h
  | found q pos m => dsimp only [runAct]; split; exacts [h.same rfl, bounded_cteFound _ _ h]
  | searchEnded e n => dsimp only [runAct]; split; exacts [bounded_insulSearchEnded _ _ _ h, bounded_cteSearchEnded h]
  | insulSafe => dsimp only [runAct]; split; exacts [bounded_insulSafe _ h, h]
  | insulRefused x => dsimp only [runAct]; split; exacts [bounded_insulRefused _ h, h]

/-! ### PROBE, and the ends of windows -/

theorem bounded_probeOff (p : Probe) (h : s.Bounded c) : (probeOff p s).Bounded c :=
  (bounded_releaseWindow .probe (s := { s with probe := some p }) (h.same rfl)).same rfl

theorem bounded_probeSettled (res : BatchResult) (excl : List Excl) (h : s.Bounded c) :
    (probeSettled res excl s).Bounded c := by
  unfold probeSettled
  split
  · exact h
  · cases res
    · exact .ite (bounded_probeOff _ h) (h.same rfl)
    all_goals exact bounded_probeOff _ h

theorem bounded_windowLost (o : Owner) (h : s.Bounded c) : (windowLost o s).Bounded c := by
  cases o with
  | probe =>
    dsimp only [windowLost, probeWindowLost]
    split
    · exact h
    · exact bounded_probeOff _ h
  | _ =>
    dsimp only [windowLost, cteWindowLost, wteWindowLost]
    repeat' split
    all_goals exact h.same rfl

theorem bounded_closeGate (h : s.Bounded c) : (closeGate s).Bounded c := by
  unfold closeGate
  split
  · exact bounded_windowLost _ (h.same rfl)
  · exact h

theorem bounded_openFirst (h : s.Bounded c) : (openFirst s).Bounded c := by
  unfold openFirst
  split
  · exact h
  · exact h.same rfl

theorem bounded_windowUnsafe (h : s.Bounded c) : (windowUnsafe s).Bounded c := by
  unfold windowUnsafe
  split
  · exact h.same rfl
  · exact bounded_windowLost _ (h.same rfl)

theorem bounded_windowSafe (h : s.Bounded c) : (windowSafe s).Bounded c :=
  .ite (h.same rfl) (bounded_openFirst (h.same rfl))

theorem bounded_windowTake (h : s.Bounded c) : (windowTake s).Bounded c := by
  have hd := bounded_disable (w := .msu) nofun h
  refine .ite h (.ite (bounded_openFirst h) ?_)
  split <;> rename_i t ht <;> rw [ht] at hd
  · exact bounded_openFirst hd
  · exact bounded_windowUnsafe hd
  · exact hd.same rfl

/-! ### Samples and insulation readings -/

theorem bounded_groupSample (f : Filter) (threshold n : Nat) (r : Option Nat) {store : Filter → State → State}
    (h : s.Bounded c) (hstore : ∀ g, (store g s).Bounded c) : (groupSample f threshold n r store s).Bounded c := by
  unfold groupSample
  refine .ite h ?_
  split
  rename_i g ans _
  cases ans with
  | none => exact hstore g
  | some a => exact (bounded_releaseWindow .cte (hstore g)).same rfl

theorem bounded_zeroVerdict (v : Option SampleClass) (r : Option Nat) (m : Meas) (j : ZeroJob) (h : s.Bounded c) :
    (zeroVerdict v r m j s).Bounded c := by
  unfold zeroVerdict
  split <;> exact h.same rfl

theorem bounded_cteSample (r : Option Nat) (h : s.Bounded c) : (cteSample r s).Bounded c := by
  unfold cteSample
  extract_lets range
  have hrel := bounded_releaseWindow .cte h
  split
  · exact h
  · refine .ite (bounded_groupSample _ _ _ _ h fun _ => h.same rfl) (.ite h ?_)
    split
    · exact h.same rfl
    · extract_lets f j'
      split
      · exact hrel.same rfl
      · exact hrel.same rfl
      · exact h.same rfl
  · refine .ite h ?_
    extract_lets f j'
    split
    · exact bounded_zeroVerdict _ _ _ _ hrel
    · exact bounded_zeroVerdict _ _ _ _ hrel
    · exact h.same rfl
  · exact bounded_groupSample _ _ _ _ h fun _ => h.same rfl

theorem bounded_wteSample (r : Option Nat) (h : s.Bounded c) : (wteSample r s).Bounded c := by
  unfold wteSample
  split
  · refine .ite h ?_
    extract_lets old
    split
    extract_lets j1 j2 keep s1 acts
    have h1 : s1.Bounded c := .ite h (bounded_releaseWindow .wte h)
    exact h1.same rfl
  · exact h

theorem bounded_probeSample (r : Option Nat) (raw : Word16) (h : s.Bounded c) : (probeSample r raw s).Bounded c := by
  unfold probeSample
  split
  · exact h
  · extract_lets range
    split
    · exact h.same rfl
    · exact bounded_probeOff _ h

theorem bounded_sampleIn (raw : Word16) (h : s.Bounded c) : (sampleIn raw s).Bounded c := by
  unfold sampleIn
  split
  · refine .ite ?_ h
    extract_lets r
    split
    · exact bounded_cteSample r h
    · exact bounded_wteSample r h
    · exact bounded_probeSample r raw h
  · exact h

theorem bounded_insulationIn (leak hvm : Word16) (h : s.Bounded c) : (insulationIn leak hvm s).Bounded c := by
  unfold insulationIn insulReadingIn dwellReading rampReading
  refine .ite ?_ h
  split
  extract_lets _ s1
  have h1 : s1.Bounded c := h.same rfl
  split
  · refine .ite h1 ?_
    repeat' split
    all_goals exact h1.same rfl
  · exact h1

end
end Sys2Proof.Machine
end

section
/-! PROOFS. The print engine, the stream, the host's requests and the resets keep the limits. -/

namespace Sys2Proof.Machine

section
variable {c : Course} {s : State}

/-! ### The print engine -/

theorem bounded_setPre (st : PreState) (h : s.Bounded c) : (setPre st s).Bounded c :=
  .ite h (bounded_raisePrinter (h.same rfl))

/-- Slots are freed (R184, R191). -/
theorem State.Bounded.fewerSlots (h : s.Bounded c) {p : Pre} (hle : p.slots.length ≤ s.pre.slots.length) :
    ({ s with pre := p } : State).Bounded c := { h with slots := le_trans hle h.slots }

theorem bounded_disableNow (h : s.Bounded c) : (disableNow s).Bounded c := by
  unfold disableNow
  extract_lets _ s1
  have h1 : s1.Bounded c := bounded_clearPrintMarks (h.same rfl)
  exact bounded_setPre .disabled (h1.fewerSlots (Nat.zero_le _))

theorem bounded_haltedOr (st : PreState) (h : s.Bounded c) : (haltedOr st s).Bounded c := by
  unfold haltedOr
  extract_lets _ s1
  have h1 : s1.Bounded c := bounded_setPre st (h.same rfl)
  exact .ite (bounded_disableNow h1) h1

theorem bounded_boundary (h : s.Bounded c) : (boundary s).Bounded c := by
  unfold boundary
  repeat' split
  · exact h
  · exact bounded_haltedOr _ h
  · exact bounded_setPre _ (h.same rfl)
  · exact (bounded_setPre _ h).same rfl
  · exact h

theorem bounded_beginLine (k : LineKind) (slot : Nat) (text : List Byte) (h : s.Bounded c) :
    (beginLine k slot text s).Bounded c := bounded_boundary (bounded_setPre .printing (h.same rfl))

/-- A record is marked in print (R177). -/
theorem bounded_takePrint {run : Nat} {r : Rec} {recs : List Rec} (htake : takePrint run s.dlg.recs = some (r, recs))
    (h : s.Bounded c) : ({ s with dlg := { s.dlg with recs := recs } } : State).Bounded c := by
  rw [takePrint_eq] at htake
  exact h.marked (markFirst_length htake) (markFirst_keeps htake h.marks.1 fun _ => id)

theorem bounded_decidePrint (h : s.Bounded c) : (decidePrint s).Bounded c := by
  unfold decidePrint
  split
  · exact bounded_setPre _ h
  · refine .ite (bounded_beginLine _ _ _ h) ?_
    split
    · have hp := bounded_takePrint ‹_› h
      exact .ite (bounded_beginLine _ _ _ (hp.same rfl)) (bounded_beginLine _ _ _ (hp.same rfl))
    · split
      · exact .ite (bounded_beginLine _ _ _ h) (bounded_setPre _ h)
      · exact bounded_setPre _ h

theorem bounded_wakePrint (h : s.Bounded c) : (wakePrint s).Bounded c := .ite (bounded_decidePrint h) h

theorem bounded_withSlot (f : Slot → Slot) (h : s.Bounded c) : (withSlot f s).Bounded c := by
  unfold withSlot
  split
  · exact h.fewerSlots (Nat.zero_le _)
  · rename_i t ts hs
    exact h.fewerSlots (by simp [hs])

theorem bounded_headerDone (h : s.Bounded c) : (headerDone s).Bounded c := bounded_decidePrint (bounded_withSlot _ h)

theorem bounded_printTaken (h : s.Bounded c) : (printTaken s).Bounded c :=
  bounded_sweep (s := { s with pre.inPrint := none }) (h.same rfl) (List.length_map _) h.marks.2

theorem bounded_afterLine (k : LineKind) (h : s.Bounded c) : (afterLine k s).Bounded c := by
  unfold afterLine
  split
  · exact bounded_setPre _ h
  · rename_i t ts hs
    split
    · exact .ite (bounded_beginLine _ _ _ h) (.ite (bounded_beginLine _ _ _ h) (bounded_headerDone h))
    · exact .ite (bounded_beginLine _ _ _ h) (bounded_headerDone h)
    · exact bounded_headerDone h
    · split
      · exact bounded_beginLine _ _ _ (bounded_withSlot _ h)
      · exact bounded_decidePrint h
    · exact bounded_decidePrint (bounded_printTaken h)
    · split
      · exact bounded_beginLine _ _ _ h
      · exact bounded_decidePrint (h.fewerSlots (by simp [hs]))
    · exact bounded_setPre _ h

theorem bounded_lineEnded (l : Line) (h : s.Bounded c) : (lineEnded l s).Bounded c := by
  unfold lineEnded
  extract_lets _ s1
  have h1 : s1.Bounded c := h.same rfl
  exact .ite (bounded_disableNow (.ite (bounded_printTaken h1) h1)) (bounded_afterLine _ h1)

theorem bounded_cancelPrint (h : s.Bounded c) : (cancelPrint s).Bounded c := by
  have hdone {t : State} (ht : t.Bounded c) : (cancelDone t).Bounded c :=
    .ite (bounded_disableNow ht) (bounded_setPre .idle (ht.same rfl))
  unfold cancelPrint
  extract_lets _ s1 _ s2
  have h1 : s1.Bounded c := bounded_clearPrintMarks (h.same rfl)
  have h2 : s2.Bounded c := h1.fewerSlots (Nat.zero_le _)
  split
  · exact hdone h2
  · exact .ite (.ite (hdone h2) h2) (.ite (h2.same rfl) (hdone h2))

theorem bounded_setEnable (on : Bool) (h : s.Bounded c) : (setEnable on s).Bounded c := by
  unfold setEnable
  split
  · exact bounded_setPre _ (h.same rfl)
  · exact h.same rfl
  · exact h
  · exact h.same rfl
  · exact bounded_disableNow h

/-! ### The printer's inputs, the stream and the transmitter -/

theorem bounded_charGone (busy : Bool) (h : s.Bounded c) : (charGone busy s).Bounded c := by
  unfold charGone
  extract_lets _ s1 _ s2
  have h2 : s2.Bounded c := h.same rfl
  split
  · exact h.same rfl
  · split
    · exact h2
    · exact .ite (bounded_lineEnded _ h2) (bounded_boundary h2)

theorem bounded_paperChanged (present busy : Bool) (h : s.Bounded c) : (paperChanged present busy s).Bounded c := by
  unfold paperChanged
  extract_lets _ s1
  have h1 : s1.Bounded c := h.same rfl
  exact .ite (.ite (.ite (bounded_boundary h1) h1) (.ite (bounded_haltedOr _ h1) h1)) h1

theorem bounded_busyFell (h : s.Bounded c) : (busyFell s).Bounded c := by
  unfold busyFell
  extract_lets _ s1
  have h1 : s1.Bounded c := h.same rfl
  exact .ite (bounded_boundary h1) h1

theorem bounded_busyOut (h : s.Bounded c) : (busyOut s).Bounded c := .ite (bounded_haltedOr _ h) h

theorem bounded_streamOne (h : s.Bounded c) : (streamOne s).Bounded c := by
  unfold streamOne
  refine .ite ?_ h
  split
  · rename_i r recs hm
    rw [markStream_eq] at hm
    exact (h.marked (markFirst_length hm) (markFirst_keeps hm h.marks.1 fun _ => id)).same rfl
  · exact h

theorem bounded_transmit (h : s.Bounded c) : (transmit s).Bounded c := by
  unfold transmit
  repeat' split
  all_goals exact h.same rfl

theorem bounded_frameGone (h : s.Bounded c) : (frameGone s).Bounded c := by
  unfold frameGone
  split
  · exact h
  · extract_lets _ s1 _ s2
    have h1 : s1.Bounded c := h.same rfl
    have h2 : s2.Bounded c := .ite (bounded_sweep h1 (clearStreamed_length _) h1.marks.2) h1
    exact bounded_transmit (bounded_streamOne (bounded_streamOne (bounded_streamOne h2)))

/-! ### The host's requests -/

theorem bounded_answer (type : Byte) (payload : List Byte) (h : s.Bounded c) : (answer type payload s).Bounded c :=
  h.same rfl

/-- With no run active nothing waits for the bus on the run's behalf, and the limit may be written (R92). -/
theorem bounded_doActionsWrite (codes : List Byte) (limit : Word16) (h : s.Bounded .running) :
    (doActionsWrite codes limit s).Bounded .running := by
  unfold doActionsWrite
  split
  · exact h.same rfl
  · rename_i hidle
    split
    · exact h.same rfl
    · exact { h with
        limit := Nat.le_max_left _ _
        total := fun ha => absurd ha hidle
        below := fun _ hl => absurd (State.active_of_live hl) hidle
        closing := nofun }

theorem bounded_doPlanErase (h : s.Bounded c) : (doPlanErase s).Bounded c :=
  .ite (h.same rfl) { h with plan := Nat.zero_le _ }

/-- A step is added while fewer than 32 are stored (R86, R87). -/
theorem bounded_doPlanAdd (b : PlanBlock) (h : s.Bounded c) : (doPlanAdd b s).Bounded c := by
  unfold doPlanAdd
  refine .ite (h.same rfl) ?_
  split
  · exact h.same rfl
  · split
    · exact h.same rfl
    · rename_i st _ hok
      have hroom : s.rnc.plan.length < 32 := by
        by_contra hfull
        unfold planAddRefusal at hok
        rw [if_pos (show Config.planSteps ≤ _ from Nat.not_lt.mp hfull)] at hok
        cases hok
      exact { h with plan := by simpa [State.planLaw] using hroom }

/-- The checks that a start passes (R94, R184). -/
theorem startRefusal_none {k : RunKind} (h : startRefusal k s = none) : s.active = false ∧ printFull s = false := by
  unfold startRefusal at h
  repeat' split at h
  all_goals simp_all

/-- A start with its figures at zero, and a slot claimed where one is free (R95, R184). -/
theorem bounded_beginRun {k : RunKind} (hok : startRefusal k s = none) (h : s.Bounded c) :
    (beginRun k s).Bounded .running := by
  obtain ⟨hidle, hslot⟩ := startRefusal_none hok
  have hno : Waiter.rnc ∉ s.hvc.waiters := h.not_waiting (.inl fun hr => by simp [State.active, hr] at hidle)
  unfold beginRun
  extract_lets _ t1 t2
  have h1 : ({ t1 with rnc.state := .running } : State).Bounded .running := { h with
    total := fun _ => Nat.zero_le _
    waits := fun hw => absurd hw hno
    below := fun _ _ => h.limit
    closing := nofun }
  have h2 : ({ t2 with rnc.state := .running } : State).Bounded .running := by
    by_cases hon : t1.pre.enable = true
    · have hclaim : t2 = claimSlot k (runUncal k t1) t1 := if_pos hon
      have hen : s.pre.enable = true := hon
      have hfree : s.pre.slots.length < Config.summarySlots := by
        simpa only [printFull, hen, Bool.true_and, decide_eq_false_iff_not, Nat.not_le] using hslot
      rw [hclaim]
      exact { h1 with slots := by simpa [State.slotsLaw, claimSlot] using Nat.le_of_lt_succ hfree }
    · have hnone : t2 = t1 := if_neg hon
      rw [hnone]
      exact h1
  exact bounded_raiseRun h2

theorem bounded_doStartPlan (h : s.Bounded .running) : (doStartPlan s).Bounded .running := by
  unfold doStartPlan
  split
  · exact h.same rfl
  · exact bounded_startStep ((bounded_beginRun ‹_› h).same rfl)

theorem bounded_doStartLearn (r : Word32) (h : s.Bounded .running) : (doStartLearn r s).Bounded .running := by
  unfold doStartLearn
  split
  · exact h.same rfl
  · exact (bounded_beginRun ‹_› h).same rfl

theorem bounded_doStartZero (r lr : Word16) (h : s.Bounded .running) : (doStartZero r lr s).Bounded .running := by
  unfold doStartZero
  split
  · exact h.same rfl
  · rename_i hok
    have hstart : startRefusal .zero s = none := by
      unfold zeroRefusal at hok
      split at hok
      · cases hok
      · assumption
    exact (bounded_beginRun hstart h).same rfl

theorem bounded_doResume (h : s.Bounded c) : (doResume s).Bounded c :=
  .ite (.ite (h.same rfl) ((bounded_removeHold _ h).same rfl)) (h.same rfl)

theorem bounded_doDefectTake (h : s.Bounded c) : (doDefectTake s).Bounded c := by
  unfold doDefectTake
  split
  · rename_i r recs htake
    rw [takeHost_eq] at htake
    exact (bounded_sweep h (markFirst_length htake) h.marks.2).same rfl
  · exact h.same rfl

theorem bounded_doPrintSet (enable baud timeout : Byte) (title : List Byte) (h : s.Bounded c) :
    (doPrintSet enable baud timeout title s).Bounded c := by
  unfold doPrintSet
  split
  · exact .ite (h.same rfl) (bounded_answer _ _ (bounded_setEnable _ (h.same rfl)))
  · exact h.same rfl

theorem bounded_doHvRelease (h : s.Bounded c) : (doHvRelease s).Bounded c := by
  unfold doHvRelease
  extract_lets _ s1 s2
  have h1 : s1.Bounded c := h.same rfl
  have h2 : s2.Bounded c := .ite (bounded_removeHold _ h1) h1
  exact .ite (h.same rfl) (h2.same rfl)

/-- WATCHDOG-SET stores at most 60 s (R202). -/
theorem bounded_doWatchdogSet (seconds : Byte) (h : s.Bounded c) : (doWatchdogSet seconds s).Bounded c := by
  obtain ⟨hreq, hdisc, -⟩ := h.link
  exact { h with link := ⟨hreq, hdisc, Nat.min_le_left _ _⟩ }

/-- A reset leaves an empty log, free slots, no run, and at RESET-WORK the plan and the limit (R203, R107, R180, R193). -/
theorem bounded_takeReset (k : ResetKind) (straps : BitVec 2) (h : s.Bounded c) :
    (takeReset k straps s).Bounded .running := by
  have hlink : (takeReset k straps s).linkLaw := by
    obtain ⟨hreq, hdisc, hwd⟩ := h.link
    cases k with
    | all => exact ⟨hreq, Nat.zero_le _, Nat.zero_le _⟩
    | work => exact ⟨hreq, hdisc, hwd⟩
    | _ => exact ⟨Nat.zero_le _, Nat.zero_le _, Nat.zero_le _⟩
  have hrun : (takeReset k straps s).planLaw ∧ 1 ≤ (takeReset k straps s).rnc.limit := by
    cases k with
    | work => exact ⟨h.plan, h.limit⟩
    | _ => exact ⟨Nat.zero_le _, (by decide : 1 ≤ defaultLimit)⟩
  have hidle : (takeReset k straps s).rnc.state = .idle := by cases k <;> rfl
  have hquiet : (takeReset k straps s).hvc.waiters = [] := by cases k <;> rfl
  have hslots : (takeReset k straps s).pre.slots = [] := by cases k <;> rfl
  exact {
    log := Nat.zero_le _
    marks := ⟨List.forall_mem_nil _, fun _ hr => nomatch hr⟩
    plan := hrun.1
    link := hlink
    slots := by simp [State.slotsLaw, hslots]
    limit := hrun.2
    total := fun ha => by simp [State.active, hidle] at ha
    waits := fun hw => by simp [hquiet] at hw
    below := fun _ hl => by simp [State.live, hidle] at hl
    closing := nofun }

theorem bounded_carryOut (i : Instr) (h : s.Bounded .running) : (carryOut i s).Bounded .running := by
  cases i
  case pointWrite p l r =>
    dsimp only [carryOut, doPointWrite]
    repeat' split
    all_goals exact h.same rfl
  case pointRead p => exact .ite (h.same rfl) (h.same rfl)
  case netErase all id =>
    dsimp only [carryOut, doNetErase]
    repeat' split
    all_goals exact h.same rfl
  case netWrite id flag pts =>
    dsimp only [carryOut, doNetWrite]
    split <;> exact h.same rfl
  case netRead id piece => exact .ite (h.same rfl) (h.same rfl)
  case calWrite r o g => exact .ite (h.same rfl) (.ite (h.same rfl) (h.same rfl))
  case planErase => exact bounded_doPlanErase h
  case planAdd b => exact bounded_doPlanAdd b h
  case actionsWrite acts limit => exact bounded_doActionsWrite acts limit h
  case startPlan => exact bounded_doStartPlan h
  case startLearn r => exact bounded_doStartLearn r h
  case startZero r lr => exact bounded_doStartZero r lr h
  case pause => exact .ite ((bounded_addHold .pause h).same rfl) (h.same rfl)
  case resume => exact bounded_doResume h
  case abort => exact .ite ((bounded_endCause (v := .aborted) nofun _ h).same rfl) (h.same rfl)
  case probe a b r =>
    dsimp only [carryOut, doProbe]
    repeat' split
    all_goals exact h.same rfl
  case defectTake => exact bounded_doDefectTake h
  case streamSet on =>
    dsimp only [carryOut, doStreamSet]
    split <;> exact h.same rfl
  case printSet en baud tmo title => exact bounded_doPrintSet en baud tmo title h
  case printCancel => exact .ite (h.same rfl) ((bounded_cancelPrint h).same rfl)
  case hvRelease => exact bounded_doHvRelease h
  case watchdogSet sec => exact bounded_doWatchdogSet sec h
  case resetWork => exact bounded_takeReset .work _ h
  case resetAll => exact bounded_takeReset .all _ h
  all_goals exact h.same rfl

/-- A request leaves the list as it is taken (R197). -/
theorem bounded_service (h : s.Bounded .running) : (service s).Bounded .running := by
  unfold service
  refine .ite h ?_
  split
  · exact h
  · rename_i r rs hreqs
    obtain ⟨hreq, hdisc, hwd⟩ := h.link
    rw [hreqs] at hreq
    have h1 : ({ s with flk.requests := rs, flk.busy := true } : State).Bounded .running :=
      { h with link := ⟨Nat.le_of_succ_le hreq, hdisc, hwd⟩ }
    cases r with
    | ok i => exact bounded_carryOut i h1
    | badLength t => exact h1.same rfl

/-! ### The line (R196, R197) -/

/-- The discard count saturates (R196). -/
theorem bounded_discard (h : s.Bounded c) : (discard s).Bounded c := by
  obtain ⟨hreq, -, hwd⟩ := h.link
  exact { h with link := ⟨hreq, Nat.min_le_left _ _, hwd⟩ }

/-- A fifth request is discarded (R197). -/
theorem bounded_submit (r : Request) (h : s.Bounded c) : (submit r s).Bounded c := by
  unfold submit
  split
  · exact bounded_discard h
  · rename_i hroom
    obtain ⟨-, hdisc, hwd⟩ := h.link
    have hlen : (s.flk.requests ++ [r]).length ≤ 4 := by
      simpa [Config.requestPlaces, Nat.lt_succ_iff] using hroom
    exact { h with link := ⟨hlen, hdisc, hwd⟩ }

theorem bounded_receive (b : Byte) (h : s.Bounded c) : (receive b s).Bounded c := by
  unfold receive
  split
  · exact h.same rfl
  · exact bounded_discard (h.same rfl)
  · exact bounded_submit _ (h.same rfl)

theorem bounded_byteGap (h : s.Bounded c) : (byteGap s).Bounded c := .ite h (bounded_discard (h.same rfl))

end
end Sys2Proof.Machine
end

section
/-! PROOFS. Batches, high voltage and what waits for the bus keep the limits, and so does every step; O60. -/

namespace Sys2Proof.Machine

section
variable {c : Course} {s : State}

/-! ### The settled event (R20, R100, R105) -/

theorem bounded_resetComplete (h : s.Bounded c) : (resetComplete s).Bounded c := by
  unfold resetComplete
  split
  · exact h
  · extract_lets s1 byRequest s2 _ s3
    have h2 : s2.Bounded c := by
      unfold s2
      split <;> exact h.same rfl
    have h3 : s3.Bounded c := .ite (h2.same rfl) h2
    exact .ite (bounded_raisePrinter h3) h3

/-- The records of a STUCK event are followed by its end cause, whatever they reach (R100). -/
theorem bounded_stuck (ds : List Draft) (h : s.Bounded c) :
    (endCause .aborted .stuckRelay (createOwn ds s)).Bounded c := by
  by_cases hc : c = .closing
  · exact bounded_endCause (v := .aborted) nofun _ (bounded_createOwn ds h (by rw [hc]; nofun))
  · exact (bounded_endCause_running (v := .aborted) nofun _ (bounded_createOwn ds h.filled nofun)).of_running hc

theorem bounded_engineSettled (who : Requester) (res : BatchResult) (excl : List Excl) (faults : List MFault)
    (h : s.Bounded c) : (engineSettled who res excl faults s).Bounded c := by
  unfold engineSettled
  refine .ite h ?_
  split
  · exact h.same rfl
  · exact bounded_stuck _ h
  · exact .ite ((bounded_createRecords _ h).same rfl) (bounded_createRecords _ h)
  · exact h

/-- A run in ENDING becomes ENDED (R105). -/
theorem bounded_runEnded (h : s.Bounded c) (hend : s.rnc.state = .ending) : (runEnded s).Bounded c := by
  have hno : Waiter.rnc ∉ s.hvc.waiters := h.not_waiting (.inl (by rw [hend]; nofun))
  have hdone : ({ slotEnded s with rnc.state := .ended } : State).Bounded c := { h with
    slots := by simpa [State.slotsLaw, slotEnded] using h.slots
    total := nofun
    waits := fun hw => absurd hw hno
    below := fun _ => nofun }
  exact bounded_raiseRun hdone

theorem bounded_deliver (who : Requester) (res : BatchResult) (excl : List Excl) (faults : List MFault)
    (h : s.Bounded c) : (deliver who res excl faults s).Bounded c := by
  cases who with
  | reset => exact bounded_resetComplete h
  | teardown =>
    dsimp only [deliver]
    split
    · exact bounded_runEnded h ‹_›
    · exact h
  | probeOn => exact bounded_probeSettled _ _ h
  | probeOff =>
    dsimp only [deliver, probeDone]
    split
    · exact h
    · exact h.same rfl
  | cte | ise | wte | gsu => exact bounded_engineSettled _ _ _ _ h

theorem bounded_settle (res : BatchResult) (b : Batch) (h : s.Bounded c) : (settle res b s).Bounded c :=
  bounded_deliver _ _ _ _ (h.same rfl)

/-! ### The phases of a batch (R12 to R21) -/

theorem bounded_setBatch (b : Batch) (h : s.Bounded c) : (setBatch b s).Bounded c := h.same rfl

theorem bounded_beginReadback (b : Batch) (h : s.Bounded c) : (beginReadback b s).Bounded c :=
  .ite (bounded_settle _ b h) (bounded_setBatch _ h)

theorem bounded_beginClose (b : Batch) (h : s.Bounded c) : (beginClose b s).Bounded c :=
  .ite (bounded_beginReadback b h) (.ite (bounded_beginReadback b h) (bounded_setBatch _ h))

theorem bounded_beginOpen (b : Batch) (h : s.Bounded c) : (beginOpen b s).Bounded c :=
  .ite (bounded_beginClose b h) (bounded_setBatch _ h)

theorem bounded_phaseDone (b : Batch) (h : s.Bounded c) : (phaseDone b s).Bounded c := by
  unfold phaseDone
  split
  · exact .ite (bounded_beginClose b h) (bounded_beginReadback b h)
  · exact bounded_setBatch _ h

theorem bounded_readDone (slot : Nat) (b : Batch) (h : s.Bounded c) : (readDone slot b s).Bounded c :=
  .ite (bounded_settle _ b h) (bounded_setBatch _ h)

theorem bounded_acknowledge (point : Nat) (side : Side) (h : s.Bounded c) : (acknowledge point side s).Bounded c := by
  unfold acknowledge
  split
  · exact h.same rfl
  · refine .ite (h.same rfl) ?_
    extract_lets b' conn _ s1
    have h1 : s1.Bounded c := h.same rfl
    exact .ite (bounded_phaseDone _ h1) (bounded_setBatch _ h1)

theorem bounded_cardGone (slot : Nat) (h : s.Bounded c) : (cardGone slot s).Bounded c := by
  unfold cardGone
  extract_lets _ s1
  have h1 : s1.Bounded c := h.same rfl
  split
  · exact bounded_raise _ _ (h1.same rfl)
  · exact h1

theorem bounded_goOnWithout (slot : Nat) (b : Batch) (h : s.Bounded c) : (goOnWithout slot b s).Bounded c :=
  .ite (bounded_readDone slot b h) (.ite (bounded_phaseDone _ h) (bounded_setBatch _ h))

theorem bounded_ackTimeout (slot : Nat) (h : s.Bounded c) : (ackTimeout slot s).Bounded c := by
  have hgone := bounded_cardGone slot h
  unfold ackTimeout
  split
  · exact .ite hgone h
  · exact .ite (bounded_goOnWithout slot _ hgone) h

theorem bounded_readbackLost (slot : Nat) (h : s.Bounded c) : (readbackLost slot s).Bounded c := by
  unfold readbackLost
  split
  · exact h
  · exact .ite h (bounded_readDone slot _ (bounded_cardGone slot h))

theorem bounded_readback (slot : Nat) (a b : BitVec 64) (h : s.Bounded c) : (readback slot a b s).Bounded c := by
  by_cases hread : ∃ bt, s.mxc.batch = some bt ∧ bt.phase = .readback ∧ slot ∈ bt.reads
  · obtain ⟨bt, hb, hp, hr⟩ := hread
    rw [readback_eq hb hp hr]
    exact bounded_readDone slot _ (h.same rfl)
  · rw [readback_idle fun bt hb hp hr => hread ⟨bt, hb, hp, hr⟩]
    exact h

theorem bounded_waitEnd (which : BatchPhase) (h : s.Bounded c) : (waitEnd which s).Bounded c := by
  unfold waitEnd
  split
  · exact h
  · refine .ite h ?_
    split
    · exact bounded_beginClose _ h
    · exact bounded_beginReadback _ h
    · exact h

theorem bounded_precondition (b : Batch) (h : s.Bounded c) : (precondition b s).Bounded c := by
  unfold precondition
  extract_lets s1
  have h1 : s1.Bounded c := bounded_closeGate h
  have hd := bounded_disable (w := .mxc) nofun h1
  refine .ite (bounded_beginOpen b h1) ?_
  split <;> rename_i t ht <;> rw [ht] at hd
  · exact bounded_beginOpen b hd
  · exact bounded_settle _ b hd
  · exact bounded_setBatch b hd

theorem bounded_takeBatch (r : BatchReq) (h : s.Bounded c) : (takeBatch r s).Bounded c :=
  .ite (bounded_settle _ _ h) (.ite (bounded_settle _ _ h) (bounded_precondition _ h))

theorem bounded_takeHeld (n : Nat) (h : s.Bounded c) : (takeHeld n s).Bounded c :=
  takeHeld_keeps (P := State.Bounded c) (fun r _ _ _ ht => bounded_takeBatch r (ht.same rfl)) n s h

theorem bounded_scanned (d : Option Desc) (sc : Scan) (h : s.Bounded c) : (scanned d sc s).Bounded c := by
  have hslot : (scanSlot d sc.slot s).Bounded c := by cases d <;> exact h.same rfl
  rw [scanned_eq]
  refine .ite (hslot.same rfl) ?_
  extract_lets _ _ t
  have ht : t.Bounded c := hslot.same rfl
  have hraised : (if sc.hadLost = true then raiseCard t else t).Bounded c := .ite (bounded_raise _ _ ht) ht
  exact hraised.same rfl

theorem bounded_scanStep (d : Nat → Option Desc) (h : s.Bounded c) : (scanStep d s).Bounded c := by
  unfold scanStep
  split
  · exact bounded_scanned _ _ h
  · exact h

/-! ### The energisation's course -/

theorem bounded_energisationTake (h : s.Bounded c) : (energisationTake s).Bounded c := by
  unfold energisationTake
  split
  · exact h
  · refine .ite h ?_
    extract_lets _ s1
    have h1 : s1.Bounded c := bounded_closeGate (h.same rfl)
    split
    · exact h1.same rfl
    · exact h1.same rfl

theorem bounded_rampCheck (h : s.Bounded c) : (rampCheck s).Bounded c := by
  unfold rampCheck
  refine .ite ?_ h
  extract_lets _ s1
  have h1 : s1.Bounded c := h.same rfl
  split
  · exact h1.same rfl
  · exact h1

theorem bounded_dwellTick (h : s.Bounded c) : (dwellTick s).Bounded c := by
  unfold dwellTick
  refine .ite ?_ h
  extract_lets _ s1
  have h1 : s1.Bounded c := h.same rfl
  split
  · exact h1.same rfl
  · exact h1

theorem bounded_dwellTimeOut (h : s.Bounded c) : (dwellTimeOut s).Bounded c := by
  unfold dwellTimeOut
  refine .ite ?_ h
  extract_lets _ s1
  have h1 : s1.Bounded c := h.same rfl
  split
  · exact .ite h1 (.ite (h1.same rfl) (h1.same rfl))
  · exact h1

theorem bounded_insulTrip (h : s.Bounded c) : (insulTrip s).Bounded c := by
  unfold insulTrip
  repeat' split
  all_goals exact h.same rfl

theorem bounded_insulArc (h : s.Bounded c) : (insulArc s).Bounded c := by
  unfold insulArc
  repeat' split
  all_goals exact h.same rfl

theorem bounded_fastReading (n : Nat) (h : s.Bounded c) : (fastReading n s).Bounded c := by
  unfold fastReading
  extract_lets pa _ s1 _ s2
  have h1 : s1.Bounded c := h.same rfl
  have h2 : s2.Bounded c := h1.same rfl
  have htrip : (trip s1).Bounded c := bounded_insulTrip (bounded_latchCause .trip (h1.same rfl))
  exact .ite h (.ite htrip (.ite (.ite (bounded_insulArc (h2.same rfl)) h2) h1))

theorem bounded_guardOpened (h : s.Bounded c) : (guardOpened s).Bounded c := by
  unfold guardOpened
  extract_lets _ s1 s2
  have h2 : s2.Bounded c := bounded_refuseWaiting _ (bounded_removeIfUp (bounded_latchCause _ (h.same rfl)))
  exact .ite (.ite (bounded_addStriking _ h2) h2) h

theorem bounded_watchdogOut (h : s.Bounded c) : (watchdogOut s).Bounded c := by
  unfold watchdogOut
  extract_lets _ s1
  have h1 : s1.Bounded c := bounded_refuseWaiting _ (bounded_removeIfUp (bounded_latchCause _ (h.same rfl)))
  exact .ite (.ite (bounded_addStriking _ h1) h1) h

/-! ### Bus safe, and the discharge fault, reach the waiters (R136, R137, R104) -/

theorem bounded_batchSafe (h : s.Bounded c) : (batchSafe s).Bounded c := by
  unfold batchSafe
  split
  · exact .ite (bounded_beginOpen _ (bounded_closeGate h)) h
  · exact h

theorem bounded_batchFault (h : s.Bounded c) : (batchFault s).Bounded c := by
  unfold batchFault
  split
  · exact .ite (bounded_settle _ _ h) h
  · exact h

/-- The run controller is answered only where the run closes out. -/
theorem bounded_answerSafe {w : Waiter} (hw : w = .rnc → c = .closing) (h : s.Bounded c) :
    (answerSafe s w).Bounded c := by
  cases w with
  | mxc => exact bounded_batchSafe h
  | msu => exact bounded_windowSafe h
  | rnc => cases hw rfl; exact bounded_enterEnding h

theorem bounded_answerFault {w : Waiter} (hw : w = .rnc → c = .closing) (h : s.Bounded c) :
    (answerFault s w).Bounded c := by
  cases w with
  | mxc => exact bounded_batchFault h
  | msu => exact bounded_windowUnsafe h
  | rnc => cases hw rfl; exact bounded_enterEnding (bounded_overrideFault h)

/-- What each answer keeps, the answers to all who wait keep. -/
theorem bounded_answers {answer : State → Waiter → State} {ws : List Waiter} (hno : Waiter.rnc ∈ ws → c = .closing)
    (hanswer : ∀ (t : State) (w : Waiter), (w = .rnc → c = .closing) → t.Bounded c → (answer t w).Bounded c)
    (h : s.Bounded c) : (ws.foldl answer s).Bounded c :=
  List.foldlRecOn (motive := State.Bounded c) ws _ h fun t ht w hw => hanswer t w (fun heq => hno (heq ▸ hw)) ht

/-- A run for which the run controller waited closes out, now that it waits no more (R104). -/
theorem State.Bounded.released {t : State} (h : s.Bounded c) (hw : Waiter.rnc ∈ s.hvc.waiters)
    (hf : t.figures = s.figures) (ht : t.hvc.waiters = []) : t.Bounded .closing := by
  obtain ⟨hrun, hv⟩ := h.waits hw
  have hclosing : ({ s with hvc.waiters := [] } : State).Bounded .closing := { h with
    waits := nofun
    below := nofun
    closing := fun _ => ⟨hv, h.total (by simp [State.active, hrun]), List.not_mem_nil⟩ }
  exact hclosing.of_figures hf fun hin => by rw [ht] at hin; exact hin

theorem bounded_busSafe (h : s.Bounded .running) (hbus : s.hvc.bus ≤ 30000) : (busSafe s).Bounded .running := by
  rw [busSafe_eq hbus]
  extract_lets off
  by_cases hw : Waiter.rnc ∈ s.hvc.waiters
  · have hoff : off.Bounded .closing := h.released hw rfl rfl
    refine State.Bounded.closed (bounded_answers (fun _ => rfl) (fun _ _ => bounded_answerSafe) ?_)
    exact .ite (hoff.same rfl) hoff
  · have hoff : off.Bounded .running := h.of_figures rfl nofun
    exact bounded_answers (fun hin => absurd hin hw) (fun _ _ => bounded_answerSafe) (.ite (hoff.same rfl) hoff)

theorem bounded_busReading (raw : Word16) (h : s.Bounded .running) : (busReading raw s).Bounded .running := by
  unfold busReading
  rw [clockTick_eq]
  extract_lets _ s1 _ s2
  have h2 : s2.Bounded .running := h.same rfl
  split
  · rename_i hc
    exact bounded_busSafe h2 hc.2
  · exact h2

/-- A discharge fault's record may reach the limit; its end cause follows once the waiters are told (R136, R100). -/
theorem bounded_dischargeFault (h : s.Bounded .running) : (dischargeFault s).Bounded .running := by
  unfold dischargeFault
  refine .ite ?_ h
  extract_lets waiters energised _ s1 _ s2 s3
  have h1 : s1.Bounded .running := bounded_latchCause .discharge (h.same rfl)
  have hws : s1.hvc.waiters = waiters := by
    obtain ⟨q, hq⟩ := latchCause_spec .discharge { s with hvc.dischLatch := true }
    exact congrArg (fun t => t.hvc.waiters) hq
  have hrecord {c : Course} (hc : c ≠ .running) (h2 : s2.Bounded c) : s3.Bounded c := by
    unfold s3
    split
    · split
      · exact bounded_createOwn _ h2 hc
      · exact h2
    · exact h2
  have hanswered : ∃ c, (waiters.foldl answerFault s3).Bounded c := by
    by_cases hw : Waiter.rnc ∈ waiters
    · have h2 : s2.Bounded .closing := h1.released (hws ▸ hw) rfl rfl
      exact ⟨_, bounded_answers (fun _ => rfl) (fun _ _ => bounded_answerFault) (hrecord nofun h2)⟩
    · have h2 : s2.Bounded .running := h1.of_figures rfl nofun
      exact ⟨_, bounded_answers (fun hin => absurd hin hw) (fun _ _ => bounded_answerFault) (hrecord (c := .filled) nofun h2.filled)⟩
  obtain ⟨c, hc⟩ := hanswered
  exact bounded_endCause_running (v := .aborted) nofun _ hc

/-! ### Every step -/

theorem bounded_finish (before : State) (h : s.Bounded .running) : (finish before s).Bounded .running :=
  finish_keeps (P := State.Bounded .running) before s h (fun _ => bounded_service)
    (fun a _ _ _ ht => bounded_runAct a (ht.same rfl)) (fun r _ _ _ ht => bounded_takeBatch r (ht.same rfl))
    (fun _ => bounded_heldAtEnd) (fun _ => bounded_wakePrint) (fun _ => bounded_streamOne) (fun _ => bounded_transmit)

theorem bounded_command {f : State → State} {t : State} (hf : (f s).Bounded .running) (ht : command f s = .next t) :
    t.Bounded .running := by
  obtain rfl : finish s (f s) = t := by simpa [command] using ht
  exact bounded_finish s hf

theorem bounded_exec {i : Instr} {t : State} (h : s.Bounded .running) (ht : exec i s = .next t) : t.Bounded .running := by
  cases i with
  | powerOn straps => exact bounded_command (bounded_takeReset _ _ h) ht
  | resetPin straps => exact bounded_command (bounded_takeReset _ _ h) ht
  | receivedByte b => exact bounded_command (bounded_receive b h) ht
  | interByteGapTimeout => exact bounded_command (bounded_byteGap h) ht
  | frameSent => exact bounded_command (bounded_frameGone h) ht
  | linkWatchdogExpiry => exact bounded_command (bounded_watchdogOut h) ht
  | scanDescriptor d ok => exact bounded_command (bounded_scanStep _ h) ht
  | scanProbeTimeout => exact bounded_command (bounded_scanStep _ h) ht
  | batchRequest => exact bounded_command (bounded_takeHeld _ h) ht
  | cardAcknowledge p side => exact bounded_command (bounded_acknowledge p side h) ht
  | cardAckTimeout k => exact bounded_command (bounded_ackTimeout k h) ht
  | openPhaseWaitEnd => exact bounded_command (bounded_waitEnd _ h) ht
  | closePhaseWaitEnd => exact bounded_command (bounded_waitEnd _ h) ht
  | readbackReport k a b => exact bounded_command (bounded_readback k a b h) ht
  | readbackTimeout k => exact bounded_command (bounded_readbackLost k h) ht
  | windowOpen => exact bounded_command (bounded_windowTake h) ht
  | settleTimeEnd => exact bounded_command (f := settleEnd) (h.same rfl) ht
  | sample raw => exact bounded_command (bounded_sampleIn raw h) ht
  | insulationReading leak hvm => exact bounded_command (bounded_insulationIn leak hvm h) ht
  | busMonitorReading raw => exact bounded_command (bounded_busReading raw h) ht
  | energisationEnable => exact bounded_command (bounded_energisationTake h) ht
  | rampTick => exact bounded_command (f := rampTick) (.ite (h.same rfl) h) ht
  | rampCheck => exact bounded_command (bounded_rampCheck h) ht
  | dwellTick => exact bounded_command (bounded_dwellTick h) ht
  | dwellTimeOut => exact bounded_command (bounded_dwellTimeOut h) ht
  | fastReading n => exact bounded_command (bounded_fastReading n h) ht
  | dischargeFault => exact bounded_command (bounded_dischargeFault h) ht
  | guardOpen => exact bounded_command (bounded_guardOpened h) ht
  | guardClose => exact bounded_command (f := guardClosedIn) (h.same rfl) ht
  | characterSent busy => exact bounded_command (bounded_charGone busy h) ht
  | paperChange present busy => exact bounded_command (bounded_paperChanged present busy h) ht
  | busyFall => exact bounded_command (bounded_busyFell h) ht
  | busyTimeout => exact bounded_command (bounded_busyOut h) ht
  | _ => exact bounded_command (bounded_submit _ h) ht

end

/-- Settles O60: the laws are `State.Bounded` between commands, which every command keeps (`bounded_exec`). -/
theorem everyStepKeepsTheCapacities : Obligations.EveryStepKeepsTheCapacities := by
  intro s t hs h
  have hb := State.bounded_running_iff.mpr hs
  refine State.bounded_running_iff.mp ?_
  unfold step at h
  split at h
  · cases h
    exact hb
  · rename_i i rest _
    exact bounded_exec (s := { s with pending := rest }) (hb.same rfl) h

end Sys2Proof.Machine
end

section
/-! PROOFS. The stream switched on and off; O29. -/

namespace Sys2Proof.Machine

/-! ### The stream begins (R176, R201) -/

/-- A request answered at once after which the stream may have records to queue. -/
theorem request_streams {s t : State} {i : Instr} (h : s.quiet) {f : Frame} (ht : carryOut i s.taken = place f t)
    (htodo : t.todo = []) (hprint : t.pre.state = .idle → t.nothingToPrint)
    (hstruck : t.rnc.struck = true → t.hvc.energised = true) (hbatch : t.mxc.batch = s.mxc.batch) :
    request i s = .next (streamFill (transmit (streamFill (place f t)))) := by
  have hpump (n : Nat) : pump n (place f t) = place f t := pump_nil n htodo
  have htake : takeAfterSettle s (place f t) = place f t := takeAfterSettle_same hbatch.symm.trans
  unfold request command finish
  simp only [request_quiet i h, ht, hpump, htake]
  rw [heldAtEnd_settled (s := place f t) hstruck, wakePrint_settled (s := place f t) hprint]

/-- The stream is on and has begun with the log's first record: it is marked in stream, and its N-DEFECT is queued first. -/
structure State.Streams (n : Notice) (r : Rec) (s : State) : Prop where
  on : s.dlg.streaming = true
  queued : s.flk.notices.head? = some n
  marked : s.dlg.recs.head? = some r

/-- A first record that is not looked for stays first. -/
theorem markFirst_head? {p : Rec → Bool} {f : Rec → Rec} {rs rs' : List Rec} {x r : Rec}
    (h : markFirst p f rs = some (x, rs')) (hr : rs.head? = some r) (hp : p r = false) : rs'.head? = some r := by
  cases rs with
  | nil => cases hr
  | cons y ys =>
    obtain rfl : y = r := Option.some.inj hr
    simp only [markFirst, hp, Bool.false_eq_true, if_false] at h
    split at h
    · cases h
      rfl
    · cases h

/-- What is queued later comes after it. -/
theorem streams_streamOne {s : State} {n : Notice} {r : Rec} (hr : r.inStream = true) (h : s.Streams n r) :
    (streamOne s).Streams n r := by
  obtain ⟨hon, hqueued, hmarked⟩ := h
  unfold streamOne
  extract_lets q
  split
  · split
    · rename_i x recs hm
      rw [markStream_eq] at hm
      exact ⟨hon, by simp [q, List.head?_append, hqueued], markFirst_head? hm hmarked (by simp [hr])⟩
    · exact ⟨hon, hqueued, hmarked⟩
  · exact ⟨hon, hqueued, hmarked⟩

theorem streams_streamFill {s : State} {n : Notice} {r : Rec} (hr : r.inStream = true) (h : s.Streams n r) :
    (streamFill s).Streams n r :=
  streams_streamOne hr (streams_streamOne hr (streams_streamOne hr h))

/-- The oldest record, host-marked and not in stream, is queued when there is room. -/
theorem streams_begun {s : State} {r : Rec} {rs : List Rec} (hon : s.dlg.streaming = true) (hx : s.resetting = none)
    (hq : s.flk.notices = []) (hrecs : s.dlg.recs = r :: rs) (hhost : r.host = true) (hout : r.inStream = false) :
    (streamFill s).Streams { kind := .defect, payload := r.bytes } { r with inStream := true } := by
  have hmark : markStream s.dlg.recs = some (r, { r with inStream := true } :: rs) := by
    simp [hrecs, markStream, hhost, hout]
  have hone : streamOne s = { s with
      dlg.recs := { r with inStream := true } :: rs
      flk.notices := [{ kind := .defect, payload := r.bytes }] } := by
    simp [streamOne, hon, hx, hq, hmark, Config.streamPlaces, Config.noticePlaces]
  have hfirst : (streamOne s).Streams { kind := .defect, payload := r.bytes } { r with inStream := true } := by
    rw [hone]
    exact ⟨hon, rfl, rfl⟩
  exact streams_streamOne rfl (streams_streamOne rfl hfirst)

/-- A reply that the transmitter takes leaves the stream as it is. -/
theorem streams_transmit {s : State} {n : Notice} {r : Rec} {f : Frame} (hwire : s.flk.wire = none)
    (hreply : s.flk.reply = some f) (h : s.Streams n r) : (transmit s).Streams n r := by
  obtain ⟨hon, hqueued, hmarked⟩ := h
  rw [transmit_reply hwire hreply]
  exact ⟨hon, hqueued, hmarked⟩

/-- The stream switched on or off by a request (R176). -/
def State.switched (on : Bool) (s : State) : State := { s.taken with dlg := { s.dlg with streaming := on } }

/-- Settles O29: the flag refused or stored, and the first record queued before the reply is sent (`streams_begun`) and kept
first after (`streams_transmit`, `streams_streamFill`). -/
theorem streamSetSwitchesTheStream : Obligations.StreamSetSwitchesTheStream := by
  intro s on hq
  have hdo : carryOut (.streamSet on) s.taken = doStreamSet on s.taken := rfl
  have ⟨⟨⟨htodo, hprint, _, hstruck⟩, _⟩, _, hwire, _, hx⟩ := hq
  refine ⟨fun hbad => ?refused, fun hoff => ?off, fun hon hall => ?on, fun hon r rs hrecs hhost hout hnone => ?begun⟩
  case refused =>
    have hflag : flagOf on = none := by
      rcases flagOf_cases on with ⟨rfl, -⟩ | ⟨rfl, -⟩ | ⟨-, h⟩
      · exact absurd hbad (by decide)
      · exact absurd hbad (by decide)
      · exact h
    exact request_answered _ hq _ (by rw [hdo, doStreamSet, hflag]; rfl)
  case off =>
    subst hoff
    exact request_replied _ hq _ (s.switched false) rfl
      ⟨htodo, hprint, .inl rfl, hstruck⟩ rfl rfl
  case on =>
    subst hon
    exact request_replied _ hq _ (s.switched true) rfl
      ⟨htodo, hprint, .inr hall, hstruck⟩ rfl rfl
  case begun =>
    subst hon
    have hreq := request_streams (t := s.switched true) (i := .streamSet 1#8) hq rfl htodo hprint hstruck rfl
    have hlink := (sameRun_streamFill (place (replyFrame 0x18#8 [1#8]) (s.switched true))).link
    have hbegun := streams_begun (s := place (replyFrame 0x18#8 [1#8]) (s.switched true)) rfl hx hnone hrecs hhost hout
    have hsent := streams_transmit (by rw [hlink]; exact hwire) (by rw [hlink]; rfl) hbegun
    obtain ⟨hon, hqueued, hmarked⟩ := streams_streamFill rfl hsent
    exact ⟨_, hreq, hon, hqueued, hmarked⟩

end Sys2Proof.Machine
end

section
/-! PROOFS. The oldest record taken by the host, and the slot it may free; O28. -/

namespace Sys2Proof.Machine

/-! ### The record taken (R175) -/

/-- The state with this log. -/
def State.withLog (recs : List Rec) (s : State) : State := { s with dlg := { s.dlg with recs := recs } }

/-- What is left in the log of a record that the host has taken: itself, without its host mark, while it waits for print
(R172, R175). -/
def Rec.leftByHost (r : Rec) : List Rec := if r.print then [{ r with host := false }] else []

/-- The reply to DEFECT-TAKE that gives a record, with the log it leaves (R175). -/
def takenReply (r : Rec) (recs : List Rec) : Frame :=
  replyFrame 0x17#8 (1#8 :: r.bytes ++ le16 recs.length ++ le16 (recs.filter (·.host)).length)

/-- The oldest record for the host stands in the log after `xs` and before `ys`: none before it can be given (R175). -/
structure State.OldestForHost (xs ys : List Rec) (r : Rec) (s : State) : Prop where
  recs : s.dlg.recs = xs ++ r :: ys
  passed : ∀ x ∈ xs, x.host = true → x.inStream = true
  host : r.host = true
  out : r.inStream = false

/-- It is given, and its slot is swept when it has no mark left. -/
theorem doDefectTake_takes {s t : State} {xs ys : List Rec} {r : Rec} (h : s.OldestForHost xs ys r)
    (ht : sweep (s.withLog (xs ++ { r with host := false } :: ys)) = t) :
    doDefectTake s = place (takenReply r t.dlg.recs) t := by
  have htake : takeHost s.dlg.recs = some (r, xs ++ { r with host := false } :: ys) := by
    rw [takeHost_eq, h.recs]
    refine markFirst_append (fun x hx => ?_) (by simp [h.host, h.out])
    cases hhost : x.host
    · rfl
    · simp [h.passed x hx hhost]
  subst ht
  unfold doDefectTake
  rw [htake]
  rfl

/-- With no record for the host the reply is empty. -/
theorem doDefectTake_nothing {s : State} (h : ∀ r ∈ s.dlg.recs, r.host = true → r.inStream = true) :
    doDefectTake s = place (replyFrame 0x17#8 (0#8 :: List.replicate 28 0#8 ++ le16 s.dlg.recs.length ++
      le16 (s.dlg.recs.filter (·.host)).length)) s := by
  have htake : takeHost s.dlg.recs = none := by
    rw [takeHost_eq, markFirst_eq_none]
    intro r hr
    cases hhost : r.host
    · rfl
    · simp [h r hr hhost]
  unfold doDefectTake
  rw [htake]
  rfl

/-! ### The slot it frees (R172 to R174) -/

/-- Still to be printed, it keeps its slot. -/
theorem sweep_taken_printed {s : State} {xs ys : List Rec} {r : Rec} (h : s.dlg.recs = xs ++ r :: ys)
    (hmarked : ∀ x ∈ s.dlg.recs, x.host = true ∨ x.print = true) (hprint : r.print = true) :
    sweep (s.withLog (xs ++ { r with host := false } :: ys)) = s.withLog (xs ++ { r with host := false } :: ys) := by
  simp only [h, List.forall_mem_append, List.forall_mem_cons] at hmarked
  obtain ⟨hxs, -, hys⟩ := hmarked
  refine sweep_marked ?_
  simpa [State.withLog, List.forall_mem_append, List.forall_mem_cons, hprint, or_imp, forall_and] using ⟨hxs, hys⟩

/-- Not to be printed, it leaves; a record in the entry place takes the slot, and LOG_FULL goes if a slot is still free. -/
theorem sweep_taken_unprinted {s t : State} {xs ys : List Rec} {r : Rec} (h : s.dlg.recs = xs ++ r :: ys)
    (hmarked : ∀ x ∈ s.dlg.recs, x.host = true ∨ x.print = true) (hprint : r.print = false)
    (ht : (s.withLog (xs ++ ys)).entryTaken = t) :
    sweep (s.withLog (xs ++ { r with host := false } :: ys)) =
      if t.dlg.entry.isNone && 0 < t.dlg.freeSlots then removeHold [.logFull] t else t := by
  simp only [h, List.forall_mem_append, List.forall_mem_cons] at hmarked
  obtain ⟨hxs, -, hys⟩ := hmarked
  have hleaves : ¬∀ x ∈ (s.withLog (xs ++ { r with host := false } :: ys)).dlg.recs, (x.host || x.print) = true := by
    intro hall
    simpa [hprint] using hall { r with host := false } (by simp [State.withLog])
  have hkept : (s.withLog (xs ++ { r with host := false } :: ys)).kept = s.withLog (xs ++ ys) := by
    have hx : xs.filter (fun x => x.host || x.print) = xs := List.filter_eq_self.mpr (by simpa using hxs)
    have hy : ys.filter (fun x => x.host || x.print) = ys := List.filter_eq_self.mpr (by simpa using hys)
    simp [State.kept, State.withLog, List.filter_append, hprint, hx, hy]
  rw [sweep_leaves hleaves, hkept, ht]

theorem entryTaken_none {s : State} (h : s.dlg.entry = none) : s.entryTaken = s := by
  unfold State.entryTaken
  rw [h]

theorem entryTaken_free {s : State} {e : Rec} (h : s.dlg.entry = some e) (hfree : 0 < s.dlg.freeSlots) :
    s.entryTaken = { s with dlg := { s.dlg with recs := s.dlg.recs ++ [e], entry := none, heldBack := none } } := by
  unfold State.entryTaken
  rw [h]
  exact if_pos hfree

/-- A slot of a log that was at most full is free when a record has left. -/
theorem freeSlots_freed {s : State} {xs ys : List Rec} {r : Rec} (h : s.dlg.recs = xs ++ r :: ys)
    (hlen : s.dlg.recs.length ≤ 256) (hres : s.dlg.reserved = false) : 0 < (s.withLog (xs ++ ys)).dlg.freeSlots := by
  rw [Dlg.freeSlots_pos_iff]
  rw [h] at hlen
  simp only [State.withLog, List.length_append, List.length_cons, hres, Bool.false_eq_true, if_false] at hlen ⊢
  omega

theorem removeHold_logFull_absent {s : State} (h : s.rnc.hold.logFull = false) : removeHold [.logFull] s = s := by
  have hsame : s.rnc.hold.remove [.logFull] = s.rnc.hold := congrArg (fun b => { s.rnc.hold with logFull := b }) h.symm
  unfold removeHold
  exact if_pos hsame

/-- Without LOG_FULL in the hold set the sweep is over when the entry place has been served. -/
theorem sweep_taken_unheld {s : State} {xs ys : List Rec} {r : Rec} (h : s.dlg.recs = xs ++ r :: ys)
    (hmarked : ∀ x ∈ s.dlg.recs, x.host = true ∨ x.print = true) (hprint : r.print = false) {t : State}
    (ht : (s.withLog (xs ++ ys)).entryTaken = t) (hfull : t.rnc.hold.logFull = false) :
    sweep (s.withLog (xs ++ { r with host := false } :: ys)) = t := by
  rw [sweep_taken_unprinted h hmarked hprint ht, removeHold_logFull_absent hfull, ite_self]

/-! ### The log after it (R176, R177, R186) -/

theorem takePrint_eq_none {run : Nat} {rs : List Rec} :
    takePrint run rs = none ↔ (rs.filter fun r => r.print && r.run == run).length = 0 := by
  rw [takePrint_eq, markFirst_eq_none]
  simp

/-- As many of its records wait for print as before. -/
theorem printMarked_leftByHost (run : Nat) (xs ys : List Rec) (r : Rec) :
    ((xs ++ r.leftByHost ++ ys).filter fun x => x.print && x.run == run).length =
      ((xs ++ r :: ys).filter fun x => x.print && x.run == run).length := by
  have hr : (r.leftByHost.filter fun x => x.print && x.run == run).length =
      ([r].filter fun x => x.print && x.run == run).length := by
    unfold Rec.leftByHost
    cases hprint : r.print
    · simp [hprint]
    · cases hrun : r.run == run <;> simp [hprint, hrun]
  rw [List.append_cons]
  simp only [List.filter_append, List.length_append, hr]

/-- The stream was off, and the printer has nothing to send as before. -/
theorem settled_leftByHost {s : State} {xs ys : List Rec} {r : Rec} (h : s.OldestForHost xs ys r) (hs : s.settled) :
    (s.withLog (xs ++ r.leftByHost ++ ys)).settled := by
  obtain ⟨hnil, hprint, hstream, hstruck⟩ := hs
  have hsame (run : Nat) := printMarked_leftByHost run xs ys r
  rw [← h.recs] at hsame
  have hoff : s.dlg.streaming = false := hstream.resolve_right fun hall => by
    have hin := hall r (by simp [h.recs]) h.host
    simp [h.out] at hin
  refine ⟨hnil, fun hidle => (hprint hidle).imp id ?_, .inl hoff, hstruck⟩
  rintro ⟨t, ts, hslots, hheader, hnone, hmore⟩
  refine ⟨t, ts, hslots, hheader, takePrint_eq_none.mpr ((hsame t.runNo).trans (takePrint_eq_none.mp hnone)),
    hmore.imp id fun hmarked => ?_⟩
  rw [runMarked, List.filter_append, List.length_append] at hmarked ⊢
  exact fun hzero => hmarked (hzero ▸ congrArg (· + _) (hsame t.runNo).symm)

/-! ### The run that LOG_FULL held (R98, R102) -/

/-- The log is as it was. -/
theorem removeHold_recs (rs : List HoldReason) (s : State) : (removeHold rs s).dlg.recs = s.dlg.recs := by
  by_cases hgo : s.rnc.state = .held ∧ s.rnc.hold.remove rs = .empty ∧ s.rnc.hold ≠ .empty
  · obtain ⟨hheld, hnone, hsome⟩ := hgo
    obtain ⟨q, hr⟩ := removeHold_continues hheld hnone hsome
    rw [hr]
    cases hwaits : s.rnc.waits <;> rfl
  · obtain ⟨q, hr⟩ := removeHold_stays hgo
    rw [hr]

/-- A request that removes the reason of a live run whose hold set held it, before it replies. -/
theorem request_releasesLogFull {s u : State} {i : Instr} {f : Frame} (hq : s.quiet) (hu : u.settled)
    (hsame : u.flk = s.taken.flk ∧ u.mxc = s.mxc) (hfull : u.rnc.hold.logFull = true) (hlive : u.live = true)
    (hbatch : u.rnc.state = .held → s.mxc.batch = none)
    (hdo : ∀ t, removeHold [.logFull] u = t → carryOut i s.taken = place f t) :
    ∃ t, request i s = .next t ∧ t.flk.wire = replyWire f ∧ u.releasedTo { u.rnc.hold with logFull := false } t := by
  obtain ⟨hflk, hmxc⟩ := hsame
  have ⟨_, _, hwire, _, _⟩ := hq
  have hwire : u.flk.wire = none := by rw [hflk]; exact hwire
  have hbusy : u.flk.busy = true := by rw [hflk]; rfl
  have hkeep : u.mxc.batch = none → s.mxc.batch = none := by rw [hmxc]; exact id
  obtain ⟨hstate, hverd⟩ := (State.live_iff u).mp hlive
  have hsome : u.rnc.hold ≠ .empty := fun h => by rw [h] at hfull; cases hfull
  by_cases hgo : u.rnc.state = .held ∧ u.rnc.hold.remove [.logFull] = .empty
  · obtain ⟨hheld, hnone⟩ := hgo
    obtain ⟨q, hr⟩ := removeHold_continues (rs := [.logFull]) hheld hnone hsome
    cases hwaits : u.rnc.waits with
    | false =>
      have hreply := hdo _ (hr.trans (if_neg (by simp [hwaits])))
      exact ⟨_, request_answers i hq _ _ hreply hu hwire hbusy hkeep, rfl,
        fun hstay => absurd ⟨hheld, hnone⟩ hstay,
        fun _ _ => ⟨fun _ => ⟨rfl, rfl, rfl⟩, fun hw => absurd hw (by simp [hwaits])⟩⟩
    | true =>
      have hreply := hdo _ (hr.trans (if_pos hwaits))
      exact ⟨_, request_worksOff i hq _ hreply (hbatch hheld),
        (workedOff_replies (s := place _ (later [.ask] (u.goingOn q))) hwire rfl).1,
        fun hstay => absurd ⟨hheld, hnone⟩ hstay,
        fun _ _ => goingOn_wentOn f q hu hheld hverd hwaits hwire⟩
  · obtain ⟨q, hr⟩ := removeHold_stays (rs := [.logFull]) (s := u) fun h => hgo ⟨h.1, h.2.1⟩
    exact ⟨_, request_answers i hq _ _ (hdo _ hr) hu hwire hbusy hkeep, rfl,
      fun _ => ⟨rfl, rfl, rfl⟩, fun hheld hempty => absurd ⟨hheld, hempty⟩ hgo⟩

/-- Settles O28: nothing to take; the record given stays for print (`sweep_taken_printed`) or leaves; then the entry place
takes its slot (`entryTaken_free`), or LOG_FULL leaves the hold set (`request_releasesLogFull`). -/
theorem defectTakeGivesTheOldestRecord : Obligations.DefectTakeGivesTheOldestRecord := by
  intro s hq hmarked
  have hdo : carryOut .defectTake s.taken = doDefectTake s.taken := rfl
  have ⟨⟨hsettled, _⟩, _⟩ := hq
  refine ⟨fun hnothing => request_answered _ hq _ (hdo.trans (doDefectTake_nothing hnothing)),
    fun xs ys r hrecs hpassed hhost hout => ?_⟩
  intro recs _
  have hold : s.taken.OldestForHost xs ys r := ⟨hrecs, hpassed, hhost, hout⟩
  have hleft : (s.taken.withLog recs).settled := settled_leftByHost hold hsettled.taken
  have hgone (hprint : r.print = false) : recs = xs ++ ys := by simp [recs, hprint]
  refine ⟨fun hstays => ?simple, fun e hprint hentry hlen hres hfull hoff hslots => ?entry,
    fun hprint hentry hlen hres hfull hlive hbatch => ?released⟩
  case simple =>
    have hsweep : sweep (s.taken.withLog (xs ++ { r with host := false } :: ys)) = s.taken.withLog recs := by
      obtain hprint | hprint := Bool.eq_false_or_eq_true r.print
      · rw [sweep_taken_printed (s := s.taken) hrecs hmarked hprint]
        simp [recs, hprint]
      · obtain ⟨hentry, hfull⟩ := hstays.resolve_left (by simp [hprint])
        rw [hgone hprint]
        exact sweep_taken_unheld (s := s.taken) hrecs hmarked hprint (entryTaken_none hentry) hfull
    exact request_replied _ hq _ _ (hdo.trans (doDefectTake_takes hold hsweep)) hleft rfl rfl
  case entry =>
    have hfree : 0 < (s.taken.withLog (xs ++ ys)).dlg.freeSlots := freeSlots_freed (s := s.taken) hrecs hlen hres
    have hsweep := sweep_taken_unheld (s := s.taken) hrecs hmarked hprint (entryTaken_free hentry hfree) hfull
    obtain ⟨hnil, -, -, hstruck⟩ := hsettled
    rw [hgone hprint]
    exact request_replied _ hq _ _ (hdo.trans (doDefectTake_takes hold hsweep))
      ⟨hnil, fun _ => .inl hslots, .inl hoff, hstruck⟩ rfl rfl
  case released =>
    have hfree : 0 < (s.taken.withLog (xs ++ ys)).dlg.freeSlots := freeSlots_freed (s := s.taken) hrecs hlen hres
    have hsweep : sweep (s.taken.withLog (xs ++ { r with host := false } :: ys)) =
        removeHold [.logFull] (s.taken.withLog recs) := by
      rw [sweep_taken_unprinted (s := s.taken) hrecs hmarked hprint (entryTaken_none hentry), hgone hprint]
      exact if_pos (Bool.and_eq_true_iff.mpr ⟨Option.isNone_iff_eq_none.mpr hentry, decide_eq_true hfree⟩)
    refine request_releasesLogFull (f := takenReply r recs) hq hleft ⟨rfl, rfl⟩ hfull hlive hbatch fun t ht => ?_
    have hreply := doDefectTake_takes hold (hsweep.trans ht)
    rwa [← ht, removeHold_recs, ht] at hreply

end Sys2Proof.Machine
end

section
/-! PROOFS. What the engines do within a command leaves the print engine as it is; the matrix's batches change its slots alone,
and neither they nor the printer's own work change what PRINT-SET has stored (R191). -/

namespace Sys2Proof.Machine

section
variable (s : State)

/-! ### Windows, high voltage, the run controller and the log -/

@[simp] theorem releaseWindow_pre (o : Owner) : (releaseWindow o s).pre = s.pre := by
  obtain ⟨m, ws, h, -⟩ := releaseWindow_eq o s
  rw [h]

@[simp] theorem stopEngine_pre : (stopEngine s).pre = s.pre := by
  obtain ⟨m, ws, h, -⟩ := stopEngine_eq s
  rw [h]
  rfl

@[simp] theorem disable_pre (w : Waiter) : (disable w s).2.pre = s.pre := by
  obtain ⟨h, -⟩ | ⟨h, -⟩ | ⟨t, h, -, -, -, -, -, -, -, -, -, -, hpre, -⟩ := disable_spec w s <;> rw [h]
  exact hpre

@[simp] theorem addHold_pre (r : HoldReason) : (addHold r s).pre = s.pre := by
  obtain ⟨q, h⟩ := addHold_spec r s
  rw [h]

@[simp] theorem heldAtEnd_pre : (heldAtEnd s).pre = s.pre := by
  obtain ⟨-, h⟩ | ⟨-, -, ⟨-, q, h⟩ | ⟨-, h⟩⟩ := heldAtEnd_spec s <;> rw [h]

@[simp] theorem continueRun_pre : (continueRun s).pre = s.pre := by
  unfold continueRun
  dsimp only
  split <;> simp [unpark]

@[simp] theorem removeHold_pre (rs : List HoldReason) : (removeHold rs s).pre = s.pre := by
  unfold removeHold
  dsimp only
  repeat' split
  all_goals simp

@[simp] theorem enterEnding_pre : (enterEnding s).pre = s.pre := by
  obtain ⟨q, h⟩ := enterEnding_eq s
  rw [h]

@[simp] theorem endCause_pre (v : Verdict) (why : EndReason) : (endCause v why s).pre = s.pre := by
  cases hlive : s.live with
  | false => exact congrArg State.pre (if_pos (congrArg not hlive : (!s.live) = true))
  | true =>
    obtain ⟨m, ws, b, q, h, -⟩ := endCause_closes v why hlive
    have hdisable : (disable .rnc (s.closingOut v why m ws b q)).2.pre = s.pre := disable_pre _ _
    rw [h]
    revert hdisable
    generalize disable .rnc (s.closingOut v why m ws b q) = answer
    obtain ⟨a, t⟩ := answer
    cases a <;> simp [closeWith, overrideFault]

@[simp] theorem completeRun_pre : (completeRun s).pre = s.pre := endCause_pre s _ _

@[simp] theorem putRecord_pre (d : Draft) : (putRecord d s).pre = s.pre := by
  obtain ⟨-, h⟩ | ⟨-, -, -, h⟩ | ⟨-, -, h⟩ := enterLog_spec (makeRec d (s.rnc.total + 1) s) (countRec d.kind s) <;>
    exact (congrArg State.pre h :)

@[simp] theorem createRecord_pre (d : Draft) : (createRecord d s).pre = s.pre := by
  unfold createRecord
  dsimp only
  repeat' split
  all_goals simp

@[simp] theorem createOwn_pre (ds : List Draft) : (createOwn ds s).pre = s.pre := by
  induction ds generalizing s with
  | nil => rfl
  | cons d ds ih =>
    unfold createOwn
    split
    · rfl
    · rw [ih, putRecord_pre]

theorem createRecords_pre (ds : List Draft) : (createRecords ds s).pre = s.pre :=
  createRecords_keeps (P := fun t => t.pre = s.pre) (fun d t h => (createRecord_pre t d).trans h) ds s rfl

@[simp] theorem permit_pre (k : UnitKind) : (permit k s).2.pre = s.pre := by
  cases hlive : s.live with
  | false => rw [permit_stopped k hlive]
  | true =>
    obtain ⟨hrun | hheld, hverd⟩ := s.live_iff.mp hlive
    · by_cases h : s.rnc.hold.join (s.checks k) = .empty
      · rw [permit_granted ⟨hrun, hverd⟩ h]
      · obtain ⟨q, hq⟩ := permit_parked ⟨hrun, hverd⟩ h
        rw [hq]
    · rw [permit_held k hheld hverd]

@[simp] theorem entryTaken_pre : s.entryTaken.pre = s.pre := by
  unfold State.entryTaken
  repeat' split
  all_goals rfl

@[simp] theorem sweep_pre : (sweep s).pre = s.pre := by
  by_cases h : ∀ r ∈ s.dlg.recs, (r.host || r.print) = true
  · rw [sweep_marked h]
  · rw [sweep_leaves h]
    split <;> simp [State.kept]

/-! ### The group search and the continuity engine -/

@[simp] theorem searchTake_pre : (searchTake s).pre = s.pre := by
  unfold searchTake
  split <;> rfl

@[simp] theorem searchStart_pre (c : Caller) (cands driven : List Nat) : (searchStart c cands driven s).pre = s.pre := by
  unfold searchStart
  repeat' split
  all_goals simp

@[simp] theorem searchProceed_pre : (searchProceed s).pre = s.pre := by
  unfold searchProceed
  split <;> rfl

@[simp] theorem searchPark_pre : (searchPark s).pre = s.pre := by
  unfold searchPark
  split <;> rfl

@[simp] theorem searchSettled_pre (ok noDrive : Bool) : (searchSettled ok noDrive s).pre = s.pre := by
  unfold searchSettled
  repeat' split
  all_goals rfl

@[simp] theorem searchAnswer_pre (a : Answer3) : (searchAnswer a s).pre = s.pre := by
  unfold searchAnswer
  repeat' split
  all_goals simp

@[simp] theorem reportUntest_pre (p : Nat) : (reportUntest p s).pre = s.pre := by
  unfold reportUntest report
  repeat' split
  all_goals simp

@[simp] theorem startStep_pre : (startStep s).pre = s.pre := by
  unfold startStep
  split
  case h_4 => exact completeRun_pre s
  all_goals rfl

@[simp] theorem stepDone_pre : (stepDone s).pre = s.pre := by
  unfold stepDone
  dsimp only
  split <;> simp

@[simp] theorem contNextNet_pre (j : ContJob) : (contNextNet j s).pre = s.pre := by
  unfold contNextNet
  split <;> simp

@[simp] theorem cteDecide_pre : (cteDecide s).pre = s.pre := by
  unfold cteDecide contDecide zeroDecide learnDecide
  dsimp only
  repeat' split
  all_goals simp

@[simp] theorem cteGranted_pre : (cteGranted s).pre = s.pre := by
  unfold cteGranted contGranted zeroGranted
  repeat' split
  all_goals simp

@[simp] theorem cteParked_pre : (cteParked s).pre = s.pre := by
  unfold cteParked
  repeat' split
  all_goals simp

@[simp] theorem pairSettled_pre (anchorLost memberLost : Bool) (j : ContJob) :
    (pairSettled anchorLost memberLost j s).pre = s.pre := by
  unfold pairSettled
  dsimp only
  repeat' split
  all_goals rfl

@[simp] theorem zeroSettled_pre (refLost pointLost : Bool) (j : ZeroJob) :
    (zeroSettled refLost pointLost j s).pre = s.pre := by
  unfold zeroSettled
  repeat' split
  all_goals simp

@[simp] theorem cteWindow_pre : (cteWindow s).pre = s.pre := by
  unfold cteWindow
  repeat' split
  all_goals rfl

@[simp] theorem cteFound_pre (q : Nat) (m : Meas) : (cteFound q m s).pre = s.pre := by
  unfold cteFound learnFound
  repeat' split
  all_goals simp

@[simp] theorem cteSearchEnded_pre : (cteSearchEnded s).pre = s.pre := by
  unfold cteSearchEnded
  split <;> simp

/-! ### The insulation and watch engines -/

@[simp] theorem insulNextNet_pre (j : InsulJob) : (insulNextNet j s).pre = s.pre := by
  unfold insulNextNet
  split <;> simp

@[simp] theorem insulDecide_pre (j : InsulJob) : (insulDecide j s).pre = s.pre := by
  unfold insulDecide
  dsimp only
  repeat' split
  all_goals simp

@[simp] theorem insulGranted_pre (j : InsulJob) : (insulGranted j s).pre = s.pre := by
  unfold insulGranted
  split <;> simp

@[simp] theorem insulSettled_pre (j : InsulJob) : (insulSettled j s).pre = s.pre := by
  unfold insulSettled
  split <;> simp

@[simp] theorem insulRefused_pre (j : InsulJob) : (insulRefused j s).pre = s.pre := by
  unfold insulRefused
  split <;> rfl

@[simp] theorem insulSafe_pre (j : InsulJob) : (insulSafe j s).pre = s.pre := by
  unfold insulSafe startLocalise
  dsimp only
  repeat' split
  all_goals simp

@[simp] theorem insulSearchEnded_pre (e : SearchEnd) (n : Nat) (j : InsulJob) :
    (insulSearchEnded e n j s).pre = s.pre := by
  unfold insulSearchEnded
  split <;> simp

@[simp] theorem iseEnergise_pre : (iseEnergise s).pre = s.pre := by
  unfold iseEnergise hvRequest
  repeat' split
  all_goals rfl

@[simp] theorem beginClosing_pre (j : WatchJob) : (beginClosing j s).pre = s.pre := releaseWindow_pre s .wte

@[simp] theorem watchDecide_pre (j : WatchJob) : (watchDecide j s).pre = s.pre := by
  unfold watchDecide moveCursor
  dsimp only
  repeat' split
  all_goals simp

@[simp] theorem watchGranted_pre (j : WatchJob) : (watchGranted j s).pre = s.pre := by
  unfold watchGranted
  repeat' split
  all_goals rfl

@[simp] theorem watchSettled_pre (bad : Bool) (j : WatchJob) : (watchSettled bad j s).pre = s.pre := by
  unfold watchSettled
  dsimp only
  repeat' split
  all_goals simp

@[simp] theorem pairUntest_pre (j : WatchJob) : (pairUntest j s).pre = s.pre := by
  simp [pairUntest]

/-! ### The engine at work -/

@[simp] theorem engineDecide_pre : (engineDecide s).pre = s.pre := by
  unfold engineDecide
  split <;> simp

@[simp] theorem granted_pre : (granted s).pre = s.pre := by
  unfold granted
  split <;> simp

@[simp] theorem askPermit_pre : (askPermit s).pre = s.pre := by
  have hp : (permit (askKind s) (heldAtEnd s)).2.pre = s.pre := by simp
  unfold askPermit
  split <;> rename_i t ht <;> rw [ht] at hp
  · rwa [granted_pre]
  · rwa [(parked_leaves t).2.2.2.1]
  · rwa [stopEngine_pre]

@[simp] theorem runAct_pre (a : Act) : (runAct a s).pre = s.pre := by
  cases a <;> dsimp only [runAct, engineWindow, advance, moveCursor, insulFound] <;> (repeat' split) <;> simp

@[simp] theorem pump_pre (n : Nat) : (pump n s).pre = s.pre :=
  pump_keeps (P := fun t => t.pre = s.pre) (fun a _ _ _ h => (runAct_pre _ a).trans h) n s rfl

/-! ### The print engine itself (R183, R191) -/

@[simp] theorem setPre_pre (st : PreState) : (setPre st s).pre = { s.pre with state := st } := by
  unfold setPre
  split
  · rename_i h
    rw [← h]
  · simp

@[simp] theorem clearPrintMarks_pre : (clearPrintMarks s).pre = s.pre := sweep_pre _

/-- The print engine when a disable has taken effect: no line, and both slots free (R191). -/
def Pre.off (p : Pre) : Pre :=
  { p with state := .disabled, enable := false, disPending := false, slots := [], line := none, inPrint := none,
           busyTimer := false }

@[simp] theorem disableNow_pre : (disableNow s).pre = s.pre.off := by
  simp [disableNow, Pre.off]

/-- What PRINT-SET stores (R191). -/
def Pre.settings (p : Pre) := (p.baud, p.timeout, p.title)

theorem setPre_settings (st : PreState) : (setPre st s).pre.settings = s.pre.settings := by
  rw [setPre_pre]
  rfl

theorem boundary_settings : (boundary s).pre.settings = s.pre.settings := by
  unfold boundary haltedOr
  dsimp only
  repeat' split
  all_goals simp [Pre.settings, Pre.off]

theorem beginLine_settings (k : LineKind) (slot : Nat) (text : List Byte) :
    (beginLine k slot text s).pre.settings = s.pre.settings := by
  rw [beginLine, boundary_settings, setPre_settings]
  rfl

theorem decidePrint_settings : (decidePrint s).pre.settings = s.pre.settings := by
  unfold decidePrint
  split
  · exact setPre_settings s _
  · split
    · exact beginLine_settings s _ _ _
    · split
      · dsimp only
        split <;> exact beginLine_settings _ _ _ _
      · split
        · split
          · exact beginLine_settings s _ _ _
          · exact setPre_settings s _
        · exact setPre_settings s _

theorem wakePrint_settings : (wakePrint s).pre.settings = s.pre.settings := by
  unfold wakePrint
  split
  · exact decidePrint_settings s
  · rfl

/-! ### Batches (R20) -/

@[simp] theorem closeGate_pre : (closeGate s).pre = s.pre := by
  unfold closeGate windowLost cteWindowLost wteWindowLost probeWindowLost probeOff
  repeat' split
  all_goals simp

@[simp] theorem resetComplete_pre : (resetComplete s).pre = s.pre := by
  unfold resetComplete
  dsimp only
  repeat' split
  all_goals simp

@[simp] theorem engineSettled_pre (who : Requester) (res : BatchResult) (excl : List Excl) (faults : List MFault) :
    (engineSettled who res excl faults s).pre = s.pre := by
  unfold engineSettled
  dsimp only
  repeat' split
  all_goals simp [createRecords_pre]

/-- Of the settled events the teardown's marks a slot as ended (R105, R185). -/
theorem settle_settings (res : BatchResult) (b : Batch) : (settle res b s).pre.settings = s.pre.settings := by
  unfold settle deliver probeSettled probeDone probeOff
  repeat' split
  case h_2.isTrue => simp [runEnded, slotEnded, Pre.settings]
  all_goals simp

theorem beginReadback_settings (b : Batch) : (beginReadback b s).pre.settings = s.pre.settings := by
  unfold beginReadback
  extract_lets reads
  split
  · exact settle_settings s _ b
  · rfl

theorem beginClose_settings (b : Batch) : (beginClose b s).pre.settings = s.pre.settings := by
  unfold beginClose
  extract_lets cmds
  repeat' split
  · exact beginReadback_settings s b
  · exact beginReadback_settings s b
  · rfl

theorem beginOpen_settings (b : Batch) : (beginOpen b s).pre.settings = s.pre.settings := by
  unfold beginOpen
  extract_lets cmds
  split
  · exact beginClose_settings s b
  · rfl

theorem takeBatch_settings (r : BatchReq) : (takeBatch r s).pre.settings = s.pre.settings := by
  unfold takeBatch precondition
  dsimp only
  repeat' split
  · exact settle_settings s _ _
  · exact settle_settings s _ _
  · rw [beginOpen_settings, closeGate_pre]
  all_goals
    rename_i t ht
    have hpre : t.pre = s.pre := by simpa [ht] using disable_pre (closeGate s) .mxc
  · rw [beginOpen_settings, hpre]
  · rw [settle_settings, hpre]
  · exact congrArg Pre.settings hpre

theorem takeAfterSettle_settings (before : State) : (takeAfterSettle before s).pre.settings = s.pre.settings := by
  unfold takeAfterSettle
  split
  · exact takeHeld_keeps (P := fun t => t.pre.settings = s.pre.settings)
      (fun r _ _ _ h => (takeBatch_settings _ r).trans h) _ s rfl
  · rfl

/-! ### A command's work -/

@[simp] theorem streamFill_pre : (streamFill s).pre = s.pre := by
  have hone (t : State) : (streamOne t).pre = t.pre := by
    unfold streamOne
    dsimp only
    repeat' split
    all_goals rfl
  simp only [streamFill, hone]

@[simp] theorem transmit_pre : (transmit s).pre = s.pre := by
  obtain ⟨f, h⟩ := transmit_flk s
  rw [h]

/-- What follows a request carried out in a quiet state leaves the settings as they are. -/
theorem request_settings {s : State} (i : Instr) (h : s.quiet) :
    ∃ t, request i s = .next t ∧ t.pre.settings = (carryOut i s.taken).pre.settings := by
  refine ⟨_, rfl, ?_⟩
  simp only [finish, request_quiet i h, streamFill_pre, transmit_pre, wakePrint_settings, heldAtEnd_pre, pump_pre,
    takeAfterSettle_settings]

end

end Sys2Proof.Machine
end

section
/-! PROOFS. The print engine's changes of state, and the printer's inputs at the character boundary (R182, R183). -/

namespace Sys2Proof.Machine

/-! ### The print engine at work (R181 to R183) -/

/-- The state with this print engine. -/
def State.withPre (p : Pre) (s : State) : State := { s with pre := p }

/-- And with these notices. -/
def State.printerAt (p : Pre) (q : List Notice) (s : State) : State :=
  { s with pre := p, flk := { s.flk with notices := q } }

/-- A change of state raises a notice (R183). -/
theorem setPre_eq (st : PreState) (p : Pre) (s : State) :
    ∃ q, setPre st (s.withPre p) = s.printerAt { p with state := st } q := by
  unfold setPre
  split
  · rename_i h
    exact ⟨s.flk.notices, by rw [← h]; rfl⟩
  · exact raise_spec .printer (printerPayload (s.withPre { p with state := st })) (s.withPre { p with state := st })

theorem setPre_same {st : PreState} {p : Pre} {s : State} (h : p.state = st) : setPre st (s.withPre p) = s.withPre p :=
  if_pos h

/-- With no disable pending, the engine halts with its timer stopped (R182). -/
theorem haltedOr_halts (st : PreState) {p : Pre} (s : State) (h : p.disPending = false) :
    ∃ q, haltedOr st (s.withPre p) = s.printerAt { p with busyTimer := false, state := st } q := by
  obtain ⟨q, hq⟩ := setPre_eq st { p with busyTimer := false } s
  have hnone : ¬(s.printerAt { p with busyTimer := false, state := st } q).pre.disPending = true :=
    Bool.not_eq_true _ ▸ h
  refine ⟨q, ?_⟩
  unfold haltedOr
  exact (congrArg (fun t : State => if t.pre.disPending then disableNow t else t) hq).trans (if_neg hnone)

/-! ### The character boundary (R182, R191) -/

/-- The line's next character goes on the wire. -/
def Pre.sending (l : Line) (c : Byte) (rest : List Byte) (p : Pre) : Pre :=
  { p with busyTimer := false, onWire := some c, line := some { l with rest := rest, sent := l.sent + 1 } }

/-- A character of the line waits at its boundary. -/
structure Pre.Waits (l : Line) (c : Byte) (rest : List Byte) (p : Pre) : Prop where
  line : p.line = some l
  char : l.rest = c :: rest
  wire : p.onWire = none

section
variable {s : State} {p : Pre} {l : Line} {c : Byte} {rest : List Byte}

theorem charWaits_of_waits (h : p.Waits l c rest) : (s.withPre p).charWaits = true := by
  simp [State.charWaits, State.withPre, h.line, h.wire, h.char]

theorem boundary_noPaper (h : p.Waits l c rest) (hpaper : p.paper = false) :
    boundary (s.withPre p) = haltedOr .noPaper (s.withPre p) := by
  simp [boundary, State.withPre, h.line, h.wire, h.char, hpaper]

/-- The character waits for the fall of BUSY, and its timer starts. -/
theorem boundary_busy (h : p.Waits l c rest) (hpaper : p.paper = true) (hbusy : p.busy = true) :
    boundary (s.withPre p) = setPre .printing (s.withPre { p with busyTimer := p.timeout != 0 }) := by
  simp [boundary, State.withPre, h.line, h.wire, h.char, hpaper, hbusy]

theorem boundary_sends (h : p.Waits l c rest) (hpaper : p.paper = true) (hbusy : p.busy = false) :
    boundary (s.withPre p) =
      (setPre .printing (s.withPre p)).withPre ((setPre .printing (s.withPre p)).pre.sending l c rest) := by
  simp [boundary, State.withPre, h.line, h.wire, h.char, hpaper, hbusy, Pre.sending]

/-- From a halt it goes on in PRINTING, which is told. -/
theorem boundary_resumes (h : p.Waits l c rest) (hpaper : p.paper = true) (hbusy : p.busy = false) :
    ∃ q, boundary (s.withPre p) = s.printerAt (Pre.sending l c rest { p with state := .printing }) q := by
  obtain ⟨q, hq⟩ := setPre_eq .printing p s
  exact ⟨q, by rw [boundary_sends h hpaper hbusy, hq]; rfl⟩

/-- In PRINTING it is sent and nothing is told. -/
theorem boundary_goesOn (h : p.Waits l c rest) (hpaper : p.paper = true) (hbusy : p.busy = false)
    (hstate : p.state = .printing) : boundary (s.withPre p) = s.withPre (p.sending l c rest) := by
  rw [boundary_sends h hpaper hbusy, setPre_same hstate]
  rfl

end

/-! ### The commands of the printer -/

theorem printerAt_settled {s : State} {p : Pre} (q : List Notice) (h : s.settled) (hp : p.state ≠ .idle) :
    (s.printerAt p q).settled := by
  obtain ⟨htodo, -, hstream, hstruck⟩ := h
  exact ⟨htodo, fun hidle => absurd hidle hp, hstream, hstruck⟩

/-- A command that changes the print engine alone, and does not bring it to IDLE: the transmitter follows. -/
theorem command_prints {f : State → State} {s : State} {p : Pre} (h : s.calm) (hf : f s = s.withPre p)
    (hp : p.state ≠ .idle) : command f s = .next (transmit { s with pre := p }) :=
  command_calm hf (printerAt_settled s.flk.notices h.1 hp) h.2 id

/-- One that raises a notice too. -/
theorem command_printerAt {f : State → State} {s : State} {p : Pre} {q : List Notice} (h : s.calm)
    (hf : f s = s.printerAt p q) (hp : p.state ≠ .idle) :
    ∃ t, command f s = .next t ∧ t.pre = p ∧ t.dlg = s.dlg := by
  obtain ⟨k, hk⟩ := command_flk hf (printerAt_settled q h.1 hp) h.2 id
  exact ⟨_, hk, rfl, rfl⟩

section
variable {s : State} {l : Line} {c : Byte} {rest : List Byte}

/-- A character of a line that has more has been sent: the next one is at its boundary. -/
theorem charGone_boundary {x : Byte} (busy : Bool) (hl : s.pre.line = some l) (hrest : l.rest = c :: rest)
    (hx : s.pre.onWire = some x) :
    charGone busy s = boundary (s.withPre { s.pre with busy := busy, onWire := none }) := by
  simp [charGone, State.withPre, hl, hx, hrest]

theorem busyFell_boundary (h : s.pre.Waits l c rest) (hstate : s.pre.state = .printing ∨ s.pre.state = .stalled) :
    busyFell s = boundary (s.withPre { s.pre with busy := false }) := by
  have hwaits : (s.withPre { s.pre with busy := false }).charWaits = true :=
    charWaits_of_waits ⟨h.line, h.char, h.wire⟩
  have hcond : (s.pre.state == .printing || s.pre.state == .stalled) = true := by
    rcases hstate with hstate | hstate <;> simp [hstate]
  exact if_pos (Bool.and_eq_true_iff.mpr ⟨hwaits, hcond⟩)

/-- The fall of BUSY is ignored in NO_PAPER. -/
theorem busyFell_ignored (hstate : s.pre.state = .noPaper) : busyFell s = s.withPre { s.pre with busy := false } := by
  simp [busyFell, State.withPre, hstate]

theorem paperChanged_gone (busy : Bool) (h : s.pre.Waits l c rest)
    (hstate : s.pre.state = .printing ∨ s.pre.state = .stalled) :
    paperChanged false busy s = haltedOr .noPaper (s.withPre { s.pre with paper := false, busy := busy }) := by
  have hwaits : (s.withPre { s.pre with paper := false, busy := busy }).charWaits = true :=
    charWaits_of_waits ⟨h.line, h.char, h.wire⟩
  exact (if_pos hwaits).trans ((if_neg Bool.false_ne_true).trans (if_pos hstate))

/-- The return of PAPER looks at BUSY afresh. -/
theorem paperChanged_back (busy : Bool) (h : s.pre.Waits l c rest) (hstate : s.pre.state = .noPaper) :
    paperChanged true busy s = boundary (s.withPre { s.pre with paper := true, busy := busy }) := by
  have hwaits : (s.withPre { s.pre with paper := true, busy := busy }).charWaits = true :=
    charWaits_of_waits ⟨h.line, h.char, h.wire⟩
  exact (if_pos hwaits).trans ((if_pos rfl).trans (if_pos (by simp [hstate])))

/-! ### A character waits -/

/-- At the end of a character PAPER is looked at, then BUSY (R182). -/
theorem characterSent_looks {x : Byte} (h : s.calm) (hl : s.pre.line = some l) (hrest : l.rest = c :: rest)
    (hpend : s.pre.disPending = false) (hx : s.pre.onWire = some x) (hstate : s.pre.state = .printing) :
    (s.pre.paper = true →
      exec (.characterSent false) s =
        .next (transmit { s with pre := Pre.sending l c rest { s.pre with busy := false } }) ∧
      exec (.characterSent true) s = .next (transmit
        { s with pre := { s.pre with busy := true, onWire := none, busyTimer := s.pre.timeout != 0 } })) ∧
    (s.pre.paper = false → ∀ busy, ∃ t, exec (.characterSent busy) s = .next t ∧
      t.pre = { s.pre with busy := busy, onWire := none, busyTimer := false, state := .noPaper } ∧ t.dlg = s.dlg) := by
  have hgone (busy : Bool) := charGone_boundary busy hl hrest hx
  have hwaits (busy : Bool) : Pre.Waits l c rest { s.pre with busy := busy, onWire := none } := ⟨hl, hrest, rfl⟩
  have hnotIdle : s.pre.state ≠ .idle := by rw [hstate]; decide
  refine ⟨fun hpaper => ⟨?_, ?_⟩, fun hpaper busy => ?_⟩
  · exact command_prints h ((hgone false).trans (boundary_goesOn (hwaits false) hpaper rfl hstate)) hnotIdle
  · exact command_prints h
      ((hgone true).trans ((boundary_busy (hwaits true) hpaper rfl).trans (setPre_same hstate))) hnotIdle
  · obtain ⟨q, hq⟩ := haltedOr_halts .noPaper (p := { s.pre with busy := busy, onWire := none }) s hpend
    exact command_printerAt h ((hgone busy).trans ((boundary_noPaper (hwaits busy) hpaper).trans hq)) nofun

/-- PAPER going absent while a character waits enters NO_PAPER. -/
theorem paperChange_halts (h : s.calm) (hw : s.pre.Waits l c rest) (hpend : s.pre.disPending = false)
    (hstate : s.pre.state = .printing ∨ s.pre.state = .stalled) :
    ∃ t, exec (.paperChange false s.pre.busy) s = .next t ∧
      t.pre = { s.pre with paper := false, busyTimer := false, state := .noPaper } ∧ t.dlg = s.dlg := by
  obtain ⟨q, hq⟩ := haltedOr_halts .noPaper (p := { s.pre with paper := false }) s hpend
  exact command_printerAt h ((paperChanged_gone s.pre.busy hw hstate).trans hq) nofun

/-- The BUSY timer's end enters STALLED. -/
theorem busyTimeout_stalls (h : s.calm) (hpend : s.pre.disPending = false) (htimer : s.pre.busyTimer = true) :
    ∃ t, exec .busyTimeout s = .next t ∧
      t.pre = { s.pre with busyTimer := false, state := .stalled } ∧ t.dlg = s.dlg := by
  obtain ⟨q, hq⟩ := haltedOr_halts .stalled s hpend
  exact command_printerAt h ((if_pos htimer : busyOut s = _).trans hq) nofun

/-- The fall of BUSY sends the character, from STALLED back in PRINTING. -/
theorem busyFall_sends (h : s.calm) (hw : s.pre.Waits l c rest) (hpaper : s.pre.paper = true) :
    (s.pre.state = .printing → exec .busyFall s =
      .next (transmit { s with pre := Pre.sending l c rest { s.pre with busy := false } })) ∧
    (s.pre.state = .stalled → ∃ t, exec .busyFall s = .next t ∧
      t.pre = Pre.sending l c rest { s.pre with busy := false, state := .printing } ∧ t.dlg = s.dlg) := by
  have hwaits : Pre.Waits l c rest { s.pre with busy := false } := ⟨hw.line, hw.char, hw.wire⟩
  refine ⟨fun hstate => ?_, fun hstate => ?_⟩
  · have hnotIdle : s.pre.state ≠ .idle := by rw [hstate]; decide
    exact command_prints h ((busyFell_boundary hw (.inl hstate)).trans (boundary_goesOn hwaits hpaper rfl hstate)) hnotIdle
  · obtain ⟨q, hq⟩ := boundary_resumes (s := s) hwaits hpaper rfl
    exact command_printerAt h ((busyFell_boundary hw (.inr hstate)).trans hq) nofun

/-- The return of PAPER looks at BUSY: the character is sent, or waits for its fall in PRINTING. -/
theorem paperChange_resumes (h : s.calm) (hw : s.pre.Waits l c rest) (hstate : s.pre.state = .noPaper) :
    (∃ t, exec (.paperChange true false) s = .next t ∧
      t.pre = Pre.sending l c rest { s.pre with paper := true, busy := false, state := .printing } ∧ t.dlg = s.dlg) ∧
    (∃ t, exec (.paperChange true true) s = .next t ∧
      t.pre = { s.pre with paper := true, busy := true, state := .printing, busyTimer := s.pre.timeout != 0 } ∧
      t.dlg = s.dlg) := by
  have hback (busy : Bool) := paperChanged_back busy hw hstate
  have hwaits (busy : Bool) : Pre.Waits l c rest { s.pre with paper := true, busy := busy } :=
    ⟨hw.line, hw.char, hw.wire⟩
  refine ⟨?_, ?_⟩
  · obtain ⟨q, hq⟩ := boundary_resumes (s := s) (hwaits false) rfl rfl
    exact command_printerAt h ((hback false).trans hq) nofun
  · obtain ⟨q, hq⟩ := setPre_eq .printing { s.pre with paper := true, busy := true, busyTimer := s.pre.timeout != 0 } s
    exact command_printerAt h ((hback true).trans ((boundary_busy (hwaits true) rfl rfl).trans hq)) nofun

end

end Sys2Proof.Machine
end

section
/-! PROOFS. The lines in their order, and the length of a defect line; O52. -/

namespace Sys2Proof.Machine

/-! ### A line begins (R181, R182) -/

/-- The printer takes a character at once. -/
structure Pre.Ready (p : Pre) : Prop where
  state : p.state = .printing
  paper : p.paper = true
  busy : p.busy = false
  wire : p.onWire = none

/-- A line's first character is on the wire. -/
def Pre.begun (k : LineKind) (slot : Nat) (text : List Byte) (p : Pre) : Pre :=
  { p with
    busyTimer := false
    onWire := (text ++ crlf).head?
    line := some { rest := (text ++ crlf).tail, sent := 1, kind := k, slot := slot, baud := p.baud } }

/-- A line is formed whole, before its first character (R181). -/
def Pre.formed (k : LineKind) (slot : Nat) (text : List Byte) (p : Pre) : Pre :=
  { p with line := some { rest := text ++ crlf, sent := 0, kind := k, slot := slot, baud := p.baud } }

theorem beginLine_begins {p : Pre} (s : State) (k : LineKind) (slot : Nat) (text : List Byte) (h : p.Ready) :
    beginLine k slot text (s.withPre p) = s.withPre (p.begun k slot text) := by
  obtain ⟨c, rest, htext⟩ : ∃ c rest, text ++ crlf = c :: rest := List.exists_cons_of_ne_nil (by simp [crlf])
  have hformed : beginLine k slot text (s.withPre p) = boundary (s.withPre (p.formed k slot text)) :=
    congrArg boundary (setPre_same h.state)
  have hwaits : (p.formed k slot text).Waits _ c rest := ⟨rfl, htext, h.wire⟩
  rw [hformed, boundary_goesOn hwaits h.paper h.busy h.state, Pre.begun, htext]
  rfl

/-! ### A line ends (R186) -/

/-- The last character of a line is on the wire, for a slot that is followed by `sls`. -/
structure State.LineDone (l : Line) (sl : Slot) (sls : List Slot) (s : State) : Prop where
  calm : s.calm
  line : s.pre.line = some l
  done : l.rest = []
  wire : s.pre.onWire ≠ none
  state : s.pre.state = .printing
  paper : s.pre.paper = true
  pend : s.pre.disPending = false
  slots : s.pre.slots = sl :: sls

/-- The print engine when the character has been sent, BUSY low. -/
def Pre.lineFree (p : Pre) : Pre := { p with busy := false, onWire := none, line := none }

section
variable {s : State} {l : Line} {sl : Slot} {sls : List Slot}

theorem State.LineDone.ready (h : s.LineDone l sl sls) (slots : List Slot) (r : Option Rec) :
    Pre.Ready { s.pre.lineFree with slots := slots, inPrint := r } := ⟨h.state, h.paper, rfl, rfl⟩

theorem State.LineDone.charGone (h : s.LineDone l sl sls) :
    charGone false s = afterLine l.kind (s.withPre s.pre.lineFree) := by
  obtain ⟨x, hx⟩ := Option.ne_none_iff_exists'.mp h.wire
  simp [Machine.charGone, lineEnded, State.withPre, Pre.lineFree, hx, h.line, h.done, h.pend]

/-- The line is followed by another, the log's records being `recs` then. -/
theorem State.LineDone.begins (h : s.LineDone l sl sls) {recs : List Rec} {p : Pre} {k : LineKind} {slot : Nat}
    {text : List Byte} (hp : p.state = .printing)
    (hline : afterLine l.kind (s.withPre s.pre.lineFree) = (s.withLog recs).withPre (p.begun k slot text))
    (hstream : s.dlg.streaming = false ∨ ∀ r ∈ recs, r.host = true → r.inStream = true) :
    ∃ t, exec (.characterSent false) s = .next t ∧ t.pre = p.begun k slot text ∧
      t.dlg = { s.dlg with recs := recs } := by
  obtain ⟨⟨htodo, -, -, hstruck⟩, hreq⟩ := h.calm
  have hnotIdle : p.state ≠ .idle := by rw [hp]; decide
  have hsettled : ((s.withLog recs).withPre (p.begun k slot text)).settled :=
    ⟨htodo, fun hidle => absurd hidle hnotIdle, hstream, hstruck⟩
  obtain ⟨f, hf⟩ := command_flk (h.charGone.trans hline) hsettled hreq id
  exact ⟨_, hf, rfl, rfl⟩

/-- The line is followed by another of slot `slot`, and the log stays. -/
theorem State.LineDone.beginsNext (h : s.LineDone l sl sls) {slots : List Slot} {r : Option Rec} {k : LineKind}
    {slot : Nat} {text : List Byte} (hline : afterLine l.kind (s.withPre s.pre.lineFree) =
      beginLine k slot text (s.withPre { s.pre.lineFree with slots := slots, inPrint := r })) :
    ∃ t, exec (.characterSent false) s = .next t ∧
      t.pre = Pre.begun k slot text { s.pre.lineFree with slots := slots, inPrint := r } ∧ t.dlg = s.dlg :=
  h.begins (recs := s.dlg.recs) h.state (hline.trans (beginLine_begins s k slot text (h.ready slots r))) h.calm.1.2.2.1

/-- With nothing more to print the engine goes to IDLE. -/
theorem State.LineDone.idles (h : s.LineDone l sl sls) {slots : List Slot}
    (hline : afterLine l.kind (s.withPre s.pre.lineFree) =
      setPre .idle (s.withPre { s.pre.lineFree with slots := slots }))
    (hnothing : (s.withPre { s.pre.lineFree with slots := slots }).nothingToPrint) :
    ∃ t, exec (.characterSent false) s = .next t ∧ t.pre.state = .idle ∧ t.pre.line = none ∧ t.pre.onWire = none ∧
      t.pre.slots = slots ∧ t.dlg = s.dlg := by
  obtain ⟨⟨htodo, -, hstream, hstruck⟩, hreq⟩ := h.calm
  obtain ⟨q, hq⟩ := setPre_eq .idle { s.pre.lineFree with slots := slots } s
  obtain ⟨f, hf⟩ := command_flk (h.charGone.trans (hline.trans hq)) ⟨htodo, fun _ => hnothing, hstream, hstruck⟩ hreq id
  exact ⟨_, hf, rfl, rfl, rfl, rfl, rfl⟩

end

/-- Of a state whose print engine has begun this line, what there is to see. -/
theorem sends_of_begun {t : State} {p : Pre} {k : LineKind} {slot : Nat} {text : List Byte} {baud : Baud}
    (h : t.pre = p.begun k slot text) (hp : p.state = .printing) (hb : p.baud = baud) :
    t.pre.line = some { rest := (text ++ [13#8, 10#8]).tail, sent := 1, kind := k, slot := slot, baud := baud } ∧
    t.pre.onWire = (text ++ [13#8, 10#8]).head? ∧ t.pre.state = .printing ∧ t.pre.busyTimer = false := by
  rw [h, ← hb]
  exact ⟨rfl, rfl, hp, rfl⟩

/-! ### What follows each line (R186 to R190) -/

section
variable {s : State} {p : Pre} {sl : Slot} {sls : List Slot}

/-- After the header's last line there is nothing to print until a record waits or the run ends. -/
theorem headerDone_idles (hslots : p.slots = sl :: sls) (hended : sl.ended = none)
    (hrecs : ∀ r ∈ s.dlg.recs, r.print = true → r.run ≠ sl.runNo) :
    headerDone (s.withPre p) = setPre .idle (s.withPre { p with slots := { sl with header := true } :: sls }) ∧
    (s.withPre { p with slots := { sl with header := true } :: sls }).nothingToPrint := by
  have htake : takePrint sl.runNo s.dlg.recs = none := by
    rw [takePrint_eq, markFirst_eq_none]
    intro r hr
    cases hprint : r.print
    · rfl
    · simpa using hrecs r hr hprint
  refine ⟨?_, .inr ⟨_, _, rfl, rfl, htake, .inl hended⟩⟩
  simp [headerDone, withSlot, decidePrint, State.withPre, hslots, htake, hended]

/-- The record in print is done: its print mark goes, and it stays for the host (R177). -/
theorem printTaken_kept {r1 : Rec} {rest : List Rec} (hrecs : s.dlg.recs = r1 :: rest) (hin : r1.inPrint = true)
    (hhost : r1.host = true) (hrest : ∀ r ∈ rest, r.inPrint = false ∧ (r.host = true ∨ r.print = true)) :
    printTaken (s.withPre p) =
      (s.withLog ({ r1 with print := false, inPrint := false } :: rest)).withPre { p with inPrint := none } := by
  have hmap : rest.map (fun r => if r.inPrint then { r with print := false, inPrint := false } else r) = rest :=
    (List.map_congr_left (g := id) fun r hr => if_neg (by simp [(hrest r hr).1])).trans (List.map_id rest)
  have hprinted : printTaken (s.withPre p) =
      sweep ((s.withLog ({ r1 with print := false, inPrint := false } :: rest)).withPre { p with inPrint := none }) := by
    simp [printTaken, State.withPre, State.withLog, hrecs, hin, hmap]
  rw [hprinted]
  refine sweep_marked fun r hr => ?_
  obtain rfl | hr := List.mem_cons.mp hr
  · simp [hhost]
  · simpa using (hrest r hr).2

/-- The next record of the slot's run is marked in print; a step line comes before it if its step is new (R188). -/
theorem decidePrint_takes {r : Rec} {recs : List Rec} (hslots : p.slots = sl :: sls) (hheader : sl.header = true)
    (htake : takePrint sl.runNo s.dlg.recs = some (r, recs)) : decidePrint (s.withPre p) =
      if sl.lastStep = some r.step then
        beginLine .defect sl.number (defectText r) ((s.withLog recs).withPre { p with inPrint := some r })
      else beginLine .step sl.number (stepText sl r.step) ((s.withLog recs).withPre { p with inPrint := some r }) := by
  simp [decidePrint, State.withPre, State.withLog, hslots, hheader, htake]

end

/-! ### A defect line has at most 40 characters (R181, R188) -/

theorem digitsAux_length_le {n k : Nat} (fuel : Nat) (acc : List Byte) (hk : 0 < k) (hn : n < 10 ^ k) :
    (digitsAux fuel n acc).length ≤ k + acc.length := by
  induction fuel generalizing n k acc with
  | zero => exact Nat.le_add_left _ _
  | succ fuel ih =>
    unfold digitsAux
    extract_lets digits
    have hdigits : digits.length = acc.length + 1 := rfl
    split
    · omega
    · obtain ⟨j, rfl⟩ : ∃ j, k = j + 1 := ⟨k - 1, by omega⟩
      have hj : 0 < j := by
        by_contra hzero
        obtain rfl : j = 0 := by omega
        omega
      have hdiv : n / 10 < 10 ^ j := Nat.div_lt_of_lt_mul (by rwa [pow_succ, Nat.mul_comm] at hn)
      have := ih digits hj hdiv
      omega

theorem decimal_length_le {n k : Nat} (hk : 0 < k) (hn : n < 10 ^ k) : (decimal n).length ≤ k :=
  digitsAux_length_le 20 [] hk hn

theorem zeroPad_length_le {n w : Nat} (hw : 0 < w) (hn : n < 10 ^ w) : (zeroPad w n).length ≤ w := by
  have := decimal_length_le hw hn
  simp only [zeroPad, List.length_append, List.length_replicate]
  omega

theorem pointText_length_le {a : Nat} (h : a < 4096) : (pointText a).length ≤ 5 := by
  have hdigits : (zeroPad 4 a).length ≤ 4 := zeroPad_length_le (by decide) (by omega)
  have hp : (ascii "P").length = 1 := rfl
  rw [pointText, List.length_append]
  omega

theorem kindField_length (k : DefectKind) : (padRight 6 k.text).length = 6 := by
  cases k <;> decide

theorem reasonText_length_le (k : DefectKind) (v : Nat) : (reasonText k v).length ≤ 9 := by
  unfold reasonText
  split <;> decide

/-- A resistance of the continuity ranges, in ohms. -/
theorem ohmsText_length_le {v : Nat} (b : Bound) (hv : v ≤ 10485600) :
    ((if b = .atLeast then ascii ">" else []) ++ decimal (v / 1000) ++ ascii "." ++ zeroPad 3 (v % 1000) ++
      ascii " OHM").length ≤ 14 := by
  have hbound : (if b = .atLeast then ascii ">" else []).length ≤ 1 := by split <;> decide
  have hwhole : (decimal (v / 1000)).length ≤ 5 := decimal_length_le (by decide) (by omega)
  have hfraction : (zeroPad 3 (v % 1000)).length ≤ 3 := zeroPad_length_le (by decide) (by omega)
  have hdot : (ascii ".").length = 1 := rfl
  have hunit : (ascii " OHM").length = 4 := rfl
  simp only [List.length_append]
  omega

/-- An insulation resistance, in megohms. -/
theorem megohmsText_length_le {v : Nat} (b : Bound) (hv : v < 4294967296) :
    ((if b = .atLeast then ascii ">" else if b = .atMost then ascii "<" else []) ++ decimal (v / 1000) ++ ascii "." ++
      decimal (v % 1000 / 100) ++ ascii "M").length ≤ 11 := by
  have hbound : (if b = .atLeast then ascii ">" else if b = .atMost then ascii "<" else []).length ≤ 1 := by
    split
    · decide
    · split <;> decide
  have hwhole : (decimal (v / 1000)).length ≤ 7 := decimal_length_le (by decide) (by omega)
  have hfraction : (decimal (v % 1000 / 100)).length ≤ 1 := decimal_length_le (by decide) (by omega)
  have hdot : (ascii ".").length = 1 := rfl
  have hunit : (ascii "M").length = 1 := rfl
  simp only [List.length_append]
  omega

/-- A current in microamps. -/
theorem microampsText_length_le {v : Nat} (hv : v < 4294967296) :
    (decimal (v / 1000000) ++ ascii "." ++ zeroPad 3 (v % 1000000 / 1000) ++ ascii "UA").length ≤ 10 := by
  have hwhole : (decimal (v / 1000000)).length ≤ 4 := decimal_length_le (by decide) (by omega)
  have hfraction : (zeroPad 3 (v % 1000000 / 1000)).length ≤ 3 := zeroPad_length_le (by decide) (by omega)
  have hdot : (ascii ".").length = 1 := rfl
  have hunit : (ascii "UA").length = 2 := rfl
  simp only [List.length_append]
  omega

/-- The kinds whose value is a resistance of the continuity ranges (R170). -/
def DefectKind.inOhms (k : DefectKind) : Prop := k = .opn ∨ k = .highR ∨ k = .unstbl ∨ k = .short

theorem valueText_length_le {r : Rec}
    (h : ∀ v, r.value = some v → v < 4294967296 ∧ (r.kind.inOhms → v ≤ 10485600)) : (valueText r).length ≤ 14 := by
  obtain ⟨hv, hohms⟩ : r.value.getD 0 < 4294967296 ∧ (r.kind.inOhms → r.value.getD 0 ≤ 10485600) := by
    cases hvalue : r.value with
    | none => exact ⟨by decide, fun _ => by decide⟩
    | some v => exact h v hvalue
  unfold valueText
  extract_lets v ohms
  have hcount : (decimal v).length ≤ 10 := decimal_length_le (by decide) (hv.trans (by decide))
  cases hk : r.kind with
  | opn => exact ohmsText_length_le _ (hohms (.inl hk))
  | highR => exact ohmsText_length_le _ (hohms (.inr (.inl hk)))
  | unstbl => exact ohmsText_length_le _ (hohms (.inr (.inr (.inl hk))))
  | short => exact ohmsText_length_le _ (hohms (.inr (.inr (.inr hk))))
  | lowIr => exact (megohmsText_length_le _ hv).trans (by decide)
  | trip => exact (microampsText_length_le hv).trans (by decide)
  | arc =>
    have hx : (ascii "x").length = 1 := rfl
    simp only [List.length_append]
    omega
  | intmit =>
    have hunit : (ascii "MS").length = 2 := rfl
    simp only [List.length_append]
    omega
  | untest | matrix | dischg => exact (reasonText_length_le _ v).trans (by decide)

/-- The fields of the line: the number, the kind, the points and the value, with a blank between each two. -/
theorem defectText_length_le {r : Rec} (hseq : r.seq < 65536) (ha : r.a < 4096) (hb : ∀ b, r.b = some b → b < 4096)
    (hv : ∀ v, r.value = some v → v < 4294967296 ∧ (r.kind.inOhms → v ≤ 10485600)) : (defectText r).length ≤ 40 := by
  have hnumber : (zeroPad 5 r.seq).length ≤ 5 := zeroPad_length_le (by decide) (by omega)
  have hkind := kindField_length r.kind
  have hvalue := valueText_length_le hv
  have hpoint := pointText_length_le ha
  have hblank (n : Nat) : (blanks n).length = n := List.length_replicate
  have hdash : (ascii "-").length = 1 := rfl
  unfold defectText
  cases hrb : r.b with
  | none =>
    simp only [List.length_append, hblank]
    omega
  | some b =>
    have hother := pointText_length_le (hb b hrb)
    simp only [List.length_append, hblank]
    omega

/-! ### The printer -/

section
variable {s : State} {l : Line} {sl : Slot} {sls : List Slot}

/-- The next line of the header, or of the footer, is sent (R187, R190). -/
theorem nextLine_begins (h : s.LineDone l sl sls) {k : LineKind} {text : List Byte}
    (hline : afterLine l.kind (s.withPre s.pre.lineFree) = beginLine k sl.number text (s.withPre s.pre.lineFree)) :
    ∃ t, exec (.characterSent false) s = .next t ∧ t.pre = s.pre.lineFree.begun k sl.number text ∧ t.dlg = s.dlg :=
  h.beginsNext (slots := s.pre.slots) (r := s.pre.inPrint) hline

theorem afterLine_title (h : s.LineDone l sl sls) (hk : l.kind = .headerRun) (ht : sl.title ≠ []) :
    afterLine l.kind (s.withPre s.pre.lineFree) =
      beginLine .headerTitle sl.number sl.title (s.withPre s.pre.lineFree) := by
  simp [afterLine, State.withPre, Pre.lineFree, h.slots, hk, ht]

theorem afterLine_uncal (h : s.LineDone l sl sls)
    (hk : l.kind = .headerRun ∧ sl.title = [] ∨ l.kind = .headerTitle) (hu : sl.uncal = true) :
    afterLine l.kind (s.withPre s.pre.lineFree) =
      beginLine .headerUncal sl.number (ascii "UNCALIBRATED") (s.withPre s.pre.lineFree) := by
  obtain ⟨hk, ht⟩ | hk := hk
  · simp [afterLine, State.withPre, Pre.lineFree, h.slots, hk, ht, hu]
  · simp [afterLine, State.withPre, Pre.lineFree, h.slots, hk, hu]

theorem afterLine_headerDone (h : s.LineDone l sl sls) (hk : l.kind = .headerUncal ∨
    sl.uncal = false ∧ (l.kind = .headerRun ∧ sl.title = [] ∨ l.kind = .headerTitle)) :
    afterLine l.kind (s.withPre s.pre.lineFree) = headerDone (s.withPre s.pre.lineFree) := by
  obtain hk | ⟨hu, ⟨hk, ht⟩ | hk⟩ := hk
  · simp [afterLine, State.withPre, Pre.lineFree, h.slots, hk]
  · simp [afterLine, State.withPre, Pre.lineFree, h.slots, hk, ht, hu]
  · simp [afterLine, State.withPre, Pre.lineFree, h.slots, hk, hu]

/-- After a step line the defect line of the record in print is sent (R188). -/
theorem stepLine_ends {r : Rec} (h : s.LineDone l sl sls) (hk : l.kind = .step) (hr : s.pre.inPrint = some r) :
    ∃ t, exec (.characterSent false) s = .next t ∧
      t.pre = Pre.begun .defect sl.number (defectText r)
        { s.pre.lineFree with slots := { sl with lastStep := some r.step } :: sls, inPrint := s.pre.inPrint } ∧
      t.dlg = s.dlg :=
  h.beginsNext (by simp [afterLine, State.withPre, Pre.lineFree, withSlot, h.slots, hk, hr])

/-- After a defect line the next record of the run is taken (R186, R177). -/
theorem defectLine_ends {r1 r2 : Rec} {rs : List Rec} (h : s.LineDone l sl sls) (hk : l.kind = .defect)
    (hheader : sl.header = true) (hrecs : s.dlg.recs = r1 :: r2 :: rs) (hin : r1.inPrint = true)
    (hhost : r1.host = true) (hin2 : r2.inPrint = false) (hprint : r2.print = true) (hrun : r2.run = sl.runNo)
    (hrest : ∀ r ∈ rs, r.inPrint = false ∧ (r.host = true ∨ r.print = true)) :
    ∃ t, exec (.characterSent false) s = .next t ∧
      t.pre = (if sl.lastStep = some r2.step then
          Pre.begun .defect sl.number (defectText r2) { s.pre.lineFree with inPrint := some r2 }
        else Pre.begun .step sl.number (stepText sl r2.step) { s.pre.lineFree with inPrint := some r2 }) ∧
      t.dlg = { s.dlg with
        recs := { r1 with print := false, inPrint := false } :: { r2 with inPrint := true } :: rs } := by
  have hafter : afterLine l.kind (s.withPre s.pre.lineFree) = decidePrint (printTaken (s.withPre s.pre.lineFree)) := by
    simp [afterLine, State.withPre, Pre.lineFree, h.slots, hk]
  have hkept := printTaken_kept (p := s.pre.lineFree) hrecs hin hhost
    (List.forall_mem_cons.mpr ⟨⟨hin2, .inr hprint⟩, hrest⟩)
  have htake : takePrint sl.runNo ({ r1 with print := false, inPrint := false } :: r2 :: rs) =
      some (r2, { r1 with print := false, inPrint := false } :: { r2 with inPrint := true } :: rs) := by
    simp [takePrint, hprint, hrun]
  have hdecide := decidePrint_takes (s := s.withLog ({ r1 with print := false, inPrint := false } :: r2 :: rs))
    (p := { s.pre.lineFree with inPrint := none }) h.slots hheader htake
  have hstream : s.dlg.streaming = false ∨ ∀ r ∈ ({ r1 with print := false, inPrint := false } ::
      { r2 with inPrint := true } :: rs : List Rec), r.host = true → r.inStream = true := by
    have hold := h.calm.1.2.2.1
    simpa only [hrecs, List.forall_mem_cons] using hold
  have hready : Pre.Ready { s.pre.lineFree with inPrint := some r2 } := h.ready s.pre.slots (some r2)
  have hbegins (k : LineKind) (text : List Byte) := h.begins (k := k) (slot := sl.number) (text := text)
    (p := { s.pre.lineFree with inPrint := some r2 }) h.state (hstream := hstream)
  rw [hkept, hdecide] at hafter
  by_cases hsame : sl.lastStep = some r2.step
  · rw [if_pos hsame] at hafter ⊢
    exact hbegins _ _ (hafter.trans (beginLine_begins (s.withLog _) _ _ _ hready))
  · rw [if_neg hsame] at hafter ⊢
    exact hbegins _ _ (hafter.trans (beginLine_begins (s.withLog _) _ _ _ hready))

/-- After a footer line the footer's next line is sent (R190). -/
theorem afterLine_footer {e : RunEnd} {i : Nat} {text : List Byte} (h : s.LineDone l sl sls)
    (hk : l.kind = .footer i) (he : sl.ended = some e) (ht : (footerLines e)[i + 1]? = some text) :
    afterLine l.kind (s.withPre s.pre.lineFree) =
      beginLine (.footer (i + 1)) sl.number text (s.withPre s.pre.lineFree) := by
  obtain ⟨hlt, hget⟩ := List.getElem?_eq_some_iff.mp ht
  have hdrop : (footerLines e).drop (i + 1) = text :: (footerLines e).drop (i + 2) := by
    rw [List.drop_eq_getElem_cons hlt, hget]
  simp [afterLine, State.withPre, Pre.lineFree, h.slots, hk, he, hdrop]

/-- After its last line the slot is free (R184, R190). -/
theorem afterLine_footerDone {e : RunEnd} {i : Nat} (h : s.LineDone l sl sls) (hk : l.kind = .footer i)
    (he : sl.ended = some e) (hlen : (footerLines e).length ≤ i + 1) :
    afterLine l.kind (s.withPre s.pre.lineFree) = decidePrint (s.withPre { s.pre.lineFree with slots := sls }) := by
  have hdrop : (footerLines e).drop (i + 1) = [] := List.drop_eq_nil_of_le hlen
  simp [afterLine, State.withPre, Pre.lineFree, h.slots, hk, he, hdrop]

end

/-- Settles O52: a character that waits (`characterSent_looks` and what follows it); what follows each line
(`State.LineDone.begins`, `State.LineDone.idles`); and the length of a defect line. -/
theorem printerObeysItsInputs : Obligations.PrinterObeysItsInputs := by
  refine ⟨fun s l c rest h hl hrest hpend => ?waits, fun s l x sl sls h hl hrest hx hstate hpaper hpend hslots => ?ends,
    fun r hseq ha hb hv => defectText_length_le hseq ha hb hv⟩
  case waits =>
    have hw (hwire : s.pre.onWire = none) : s.pre.Waits l c rest := ⟨hl, hrest, hwire⟩
    refine ⟨fun x hx hstate => characterSent_looks h hl hrest hpend hx hstate, fun hwire hstate => ⟨fun hpaper => ?_, ?_, ?_⟩,
      fun hwire hstate => ⟨fun hpaper => ?_, ?_⟩, fun hwire hstate => ⟨?_, ?_, ?_⟩⟩
    · exact (busyFall_sends h (hw hwire) hpaper).1 hstate
    · exact paperChange_halts h (hw hwire) hpend (.inl hstate)
    · exact busyTimeout_stalls h hpend
    · exact (busyFall_sends h (hw hwire) hpaper).2 hstate
    · exact paperChange_halts h (hw hwire) hpend (.inr hstate)
    · exact (paperChange_resumes h (hw hwire) hstate).1
    · exact (paperChange_resumes h (hw hwire) hstate).2
    · exact command_prints h (busyFell_ignored hstate) (by simp [hstate])
  case ends =>
    have hdone : s.LineDone l sl sls := ⟨h, hl, hrest, by simp [hx], hstate, hpaper, hpend, hslots⟩
    intro sends ended
    refine ⟨fun hk ht => ?title, fun hk hu => ?uncal, fun hk he hrecs => ?headerDone, fun r hk hr => ?step,
      fun r1 r2 rs hk hheader hrecs hin hhost hin2 hprint hrun hrest => ?defect, fun e i hk he => ⟨fun text ht => ?footer,
        fun hlen => ⟨fun hnil => ?last, fun sl2 more hmore hheader => ?nextSlot⟩⟩⟩
    case title =>
      obtain ⟨t, ht, hpre, hdlg⟩ := nextLine_begins hdone (afterLine_title hdone hk ht)
      exact ⟨t, ht, sends_of_begun hpre hstate rfl, by rw [hpre]; rfl, hdlg⟩
    case uncal =>
      obtain ⟨t, ht, hpre, hdlg⟩ := nextLine_begins hdone (afterLine_uncal hdone hk hu)
      exact ⟨t, ht, sends_of_begun hpre hstate rfl, by rw [hpre]; rfl, hdlg⟩
    case headerDone =>
      obtain ⟨hidle, hnothing⟩ := headerDone_idles (p := s.pre.lineFree) hslots he hrecs
      exact hdone.idles ((afterLine_headerDone hdone hk).trans hidle) hnothing
    case step =>
      obtain ⟨t, ht, hpre, hdlg⟩ := stepLine_ends hdone hk hr
      exact ⟨t, ht, sends_of_begun hpre hstate rfl, by rw [hpre]; rfl, hdlg⟩
    case defect =>
      obtain ⟨t, ht, hpre, hdlg⟩ := defectLine_ends hdone hk hheader hrecs hin hhost hin2 hprint hrun hrest
      refine ⟨t, ht, by rw [hpre]; split <;> rfl, by rw [hpre]; split <;> rfl, by rw [hdlg], fun hsame => ?_, fun hnew => ?_⟩
      · exact sends_of_begun (hpre.trans (if_pos hsame)) hstate rfl
      · exact sends_of_begun (hpre.trans (if_neg hnew)) hstate rfl
    case footer =>
      obtain ⟨t, ht, hpre, hdlg⟩ := nextLine_begins hdone (afterLine_footer hdone hk he ht)
      exact ⟨t, ht, sends_of_begun hpre hstate rfl, by rw [hpre]; rfl, hdlg⟩
    case last =>
      subst hnil
      obtain ⟨t, ht, hidle, hline, -, hnone, hdlg⟩ := hdone.idles (slots := [])
        ((afterLine_footerDone hdone hk he hlen).trans rfl) (.inl rfl)
      exact ⟨t, ht, hidle, hline, hnone, hdlg⟩
    case nextSlot =>
      subst hmore
      have hdecide : decidePrint (s.withPre { s.pre.lineFree with slots := sl2 :: more }) =
          beginLine .headerRun sl2.number (headerText sl2) (s.withPre { s.pre.lineFree with slots := sl2 :: more }) := by
        simp [decidePrint, State.withPre, hheader]
      obtain ⟨t, ht, hpre, hdlg⟩ := hdone.beginsNext (r := s.pre.inPrint)
        ((afterLine_footerDone hdone hk he hlen).trans hdecide)
      exact ⟨t, ht, by rw [hpre]; rfl, hdlg, sends_of_begun hpre hstate rfl⟩

end Sys2Proof.Machine
end

section
/-! PROOFS. The print marks cleared, and a request that changes the printer and the log; PRINT-SET (R191), O30. -/

namespace Sys2Proof.Machine

/-! ### The print marks cleared (R178) -/

/-- Every record, that in the entry place included, is as `P` says. -/
def Dlg.All (P : Rec → Prop) (d : Dlg) : Prop := (∀ r ∈ d.recs, P r) ∧ ∀ r, d.entry = some r → P r

/-- No record waits for print. -/
def Dlg.Unprinted (d : Dlg) : Prop := d.All fun r => r.print = false

/-- A record that does not wait for print. -/
def Rec.unmarked (r : Rec) : Rec := { r with print := false, inPrint := false }

/-- The log when a record in the entry place has taken a free slot (R173). -/
def Dlg.entryTaken (d : Dlg) : Dlg :=
  match d.entry with
  | some r => if 0 < d.freeSlots then { d with recs := d.recs ++ [r], entry := none, heldBack := none } else d
  | none => d

theorem entryTaken_eq (s : State) : s.entryTaken = { s with dlg := s.dlg.entryTaken } := by
  cases hentry : s.dlg.entry with
  | none => simp [State.entryTaken, Dlg.entryTaken, hentry]
  | some r => by_cases hfree : 0 < s.dlg.freeSlots <;> simp [State.entryTaken, Dlg.entryTaken, hentry, hfree]

theorem Dlg.All.entryTaken {P : Rec → Prop} {d : Dlg} (h : d.All P) : d.entryTaken.All P := by
  obtain ⟨hrecs, hentry⟩ := h
  unfold Dlg.entryTaken
  split
  · rename_i r hr
    split
    · exact ⟨by simpa [List.forall_mem_append, or_imp, forall_and] using ⟨hrecs, hentry r hr⟩, nofun⟩
    · exact ⟨hrecs, hentry⟩
  · exact ⟨hrecs, hentry⟩

/-- The log when the records without a mark have left (R172, R173). -/
def Dlg.swept (d : Dlg) : Dlg :=
  if ∀ r ∈ d.recs, (r.host || r.print) = true then d
  else { d with recs := d.recs.filter fun r => r.host || r.print }.entryTaken

/-- Without LOG_FULL in the hold set a sweep changes the log alone. -/
theorem sweep_unheld {s : State} (hfull : s.rnc.hold.logFull = false) : sweep s = { s with dlg := s.dlg.swept } := by
  unfold Dlg.swept
  split
  · rename_i h
    exact sweep_marked h
  · rename_i h
    rw [sweep_leaves h, removeHold_logFull_absent (by rw [entryTaken_eq]; exact hfull), ite_self, entryTaken_eq]
    rfl

theorem Dlg.All.swept {P : Rec → Prop} {d : Dlg} (h : d.All P) : d.swept.All P := by
  unfold Dlg.swept
  split
  · exact h
  · exact Dlg.All.entryTaken ⟨fun r hr => h.1 r (List.mem_of_mem_filter hr), h.2⟩

/-- The log with every print mark cleared. -/
def Dlg.unmarked (d : Dlg) : Dlg :=
  { d with recs := d.recs.map Rec.unmarked, entry := d.entry.map Rec.unmarked }

theorem Dlg.unprinted_unmarked (d : Dlg) : d.unmarked.Unprinted := by
  refine ⟨by simp [Dlg.unmarked, Rec.unmarked], fun r hr => ?_⟩
  obtain ⟨r, -, rfl⟩ := Option.map_eq_some_iff.mp hr
  rfl

/-- The log when a PRINT-CANCEL, or a disable, has cleared the marks (R178). -/
def Dlg.cancelled (d : Dlg) : Dlg := d.unmarked.swept

theorem Dlg.unprinted_cancelled (d : Dlg) : d.cancelled.Unprinted := Dlg.All.swept d.unprinted_unmarked

theorem clearPrintMarks_unheld {s : State} (hfull : s.rnc.hold.logFull = false) :
    clearPrintMarks s = { s with dlg := s.dlg.cancelled } :=
  sweep_unheld (s := { s with dlg := s.dlg.unmarked }) hfull

/-- A disable takes effect (R191): the marks cleared leave the log `d`. -/
theorem disableNow_eq {s : State} {d : Dlg}
    (hd : ∀ p, clearPrintMarks (s.withPre p) = { s.withPre p with dlg := d }) :
    ∃ q, disableNow s = { s.printerAt s.pre.off q with dlg := d } := by
  obtain ⟨q, hq⟩ := setPre_eq .disabled
    { s.pre with line := none, inPrint := none, busyTimer := false, slots := [], enable := false, disPending := false }
    { s with dlg := d }
  have hclear := hd { s.pre with line := none, inPrint := none, busyTimer := false }
  refine ⟨q, Eq.trans ?_ hq⟩
  unfold disableNow
  dsimp only [State.withPre] at hclear ⊢
  rw [hclear]

/-! ### A request that changes the printer and the log -/

theorem streamOne_unprinted {s : State} (h : s.dlg.Unprinted) : (streamOne s).dlg.Unprinted := by
  unfold streamOne
  extract_lets q
  split
  · split
    · rename_i r recs hm
      rw [markStream_eq] at hm
      exact ⟨markFirst_keeps hm h.1 fun _ => id, h.2⟩
    · exact h
  · exact h

theorem streamFill_unprinted {s : State} (h : s.dlg.Unprinted) : (streamFill s).dlg.Unprinted :=
  streamOne_unprinted (streamOne_unprinted (streamOne_unprinted h))

/-- The stream has nothing to queue. -/
def Dlg.StreamQuiet (d : Dlg) : Prop := d.streaming = false ∨ ∀ r ∈ d.recs, r.host = true → r.inStream = true

/-- A request after which no engine has work, nor the printer: the reply goes on the wire, and only the stream may look at
the log again. -/
theorem request_leaves {s u : State} {i : Instr} {f : Frame} (h : s.quiet) (hu : carryOut i s.taken = place f u)
    (htodo : u.todo = []) (hprint : u.pre.state = .idle → u.nothingToPrint)
    (hstruck : u.rnc.struck = true → u.hvc.energised = true) (hbatch : u.mxc.batch = s.mxc.batch)
    (hwire : u.flk.wire = none) :
    ∃ t, request i s = .next t ∧ t.pre = u.pre ∧ t.flk.wire = replyWire f ∧ (u.dlg.Unprinted → t.dlg.Unprinted) ∧
      (u.dlg.StreamQuiet → t.dlg = u.dlg) := by
  have hlink := (sameRun_streamFill (place f u)).link
  have hsent := transmit_reply (s := streamFill (place f u)) (f := f) (by rw [hlink]; exact hwire) (by rw [hlink]; rfl)
  have hfill := (sameRun_streamFill (transmit (streamFill (place f u)))).link
  refine ⟨_, request_streams h hu htodo hprint hstruck hbatch, by simp, by rw [hfill, hsent], fun hd => ?_, fun hd => ?_⟩
  · refine streamFill_unprinted ?_
    rw [hsent]
    exact streamFill_unprinted (s := place f u) hd
  · have hquiet : streamFill (place f u) = place f u := streamFill_settled hd
    rw [hquiet] at hsent
    rw [hquiet, hsent, streamFill_settled (by exact hd)]
    rfl

/-! ### PRINT-SET (R191) -/

/-- What PRINT-SET refuses. -/
def printSetBad (en baud : Byte) (title : List Byte) : Prop :=
  1 < en.toNat ∨ 2 < baud.toNat ∨ 32 < title.length ∨ ∃ c ∈ title, c.toNat < 32 ∨ 126 < c.toNat

/-- The settings stored. -/
def Pre.set (rate : Baud) (timeout : Byte) (title : List Byte) (p : Pre) : Pre :=
  { p with baud := rate, timeout := min 60 timeout.toNat, title := title }

theorem Baud.ofCode_cases (n : Nat) :
    (∃ rate, Baud.ofCode n = some rate ∧ rate.code = n) ∨ (Baud.ofCode n = none ∧ 2 < n) := by
  match n with
  | 0 => exact .inl ⟨.b9600, rfl, rfl⟩
  | 1 => exact .inl ⟨.b19200, rfl, rfl⟩
  | 2 => exact .inl ⟨.b38400, rfl, rfl⟩
  | n + 3 => exact .inr ⟨rfl, by omega⟩

theorem title_bad_iff (title : List Byte) : (32 < title.length || !title.all printable) = true ↔
    32 < title.length ∨ ∃ c ∈ title, c.toNat < 32 ∨ 126 < c.toNat := by
  have hchar (c : Byte) : printable c = false ↔ c.toNat < 32 ∨ 126 < c.toNat := by
    simp only [printable, Bool.and_eq_false_iff, decide_eq_false_iff_not]
    omega
  simp [hchar]

theorem doPrintSet_refuses {en baud : Byte} (timeout : Byte) {title : List Byte} (s : State)
    (h : printSetBad en baud title) : doPrintSet en baud timeout title s = refuse 0x19#8 .badArg s := by
  unfold doPrintSet
  split
  · rename_i on rate hon hrate
    have hen : ¬1 < en.toNat := fun hbig => by
      rcases flagOf_cases en with ⟨rfl, -⟩ | ⟨rfl, -⟩ | ⟨-, hno⟩
      · exact absurd hbig (by decide)
      · exact absurd hbig (by decide)
      · rw [hno] at hon; cases hon
    have hbaud : ¬2 < baud.toNat := fun hbig => by
      rcases Baud.ofCode_cases baud.toNat with ⟨r, hr, hcode⟩ | ⟨hno, -⟩
      · cases r <;> simp [Baud.code] at hcode <;> omega
      · rw [hno] at hrate; cases hrate
    exact if_pos ((title_bad_iff title).mpr ((h.resolve_left hen).resolve_left hbaud))
  · rfl

theorem doPrintSet_stores {en baud : Byte} (timeout : Byte) {title : List Byte} (s : State)
    (h : ¬printSetBad en baud title) : ∃ on rate, (en = 1#8 ∧ on = true ∨ en = 0#8 ∧ on = false) ∧
      rate.code = baud.toNat ∧ ∀ t, setEnable on (s.withPre (s.pre.set rate timeout title)) = t →
      doPrintSet en baud timeout title s = place (replyFrame 0x19#8 (printSetPayload t)) t := by
  obtain ⟨hen, hbaud, htitle⟩ : ¬1 < en.toNat ∧ ¬2 < baud.toNat ∧
      ¬(32 < title.length ∨ ∃ c ∈ title, c.toNat < 32 ∨ 126 < c.toNat) := by
    simpa only [printSetBad, not_or] using h
  obtain ⟨on, hflag, hon⟩ : ∃ on, flagOf en = some on ∧ (en = 1#8 ∧ on = true ∨ en = 0#8 ∧ on = false) := by
    rcases flagOf_cases en with ⟨rfl, hf⟩ | ⟨rfl, hf⟩ | ⟨hbig, -⟩
    · exact ⟨false, hf, .inr ⟨rfl, rfl⟩⟩
    · exact ⟨true, hf, .inl ⟨rfl, rfl⟩⟩
    · exact absurd hbig hen
  obtain ⟨rate, hrate, hcode⟩ := (Baud.ofCode_cases baud.toNat).resolve_right fun hno => hbaud hno.2
  refine ⟨on, rate, hon, hcode, fun t ht => ?_⟩
  subst ht
  unfold doPrintSet
  rw [hflag, hrate]
  exact if_neg (mt (title_bad_iff title).mp htitle)

/-- The engine has no line under way, or waits in the middle of one (R182). -/
def Pre.halted (p : Pre) : Prop := p.state = .stalled ∨ p.state = .noPaper ∨ p.state = .idle

/-- What an enable or a disable makes of the print engine. -/
def Pre.enabledBy (on : Bool) (p : Pre) : Pre :=
  match on, p.state with
  | true, .disabled => { p with enable := true, state := .idle }
  | true, _ => { p with disPending := false }
  | false, .disabled => p
  | false, .printing => { p with disPending := true }
  | false, _ => p.off

theorem setEnable_pre (on : Bool) (s : State) : (setEnable on s).pre = s.pre.enabledBy on := by
  cases on <;> cases hstate : s.pre.state <;> simp [setEnable, Pre.enabledBy, hstate]

/-- Unless it is a disable that takes effect, it leaves the log as it is. -/
theorem setEnable_keepsLog {on : Bool} {s : State} (h : on = true ∨ ¬s.pre.halted) :
    ∃ q, setEnable on s = s.printerAt (s.pre.enabledBy on) q := by
  cases on <;> cases hstate : s.pre.state
  case true.disabled =>
    obtain ⟨q, hq⟩ := setPre_eq .idle { s.pre with enable := true } s
    exact ⟨q, by simpa [setEnable, Pre.enabledBy, State.withPre, hstate] using hq⟩
  case false.idle | false.stalled | false.noPaper => simp [Pre.halted, hstate] at h
  all_goals exact ⟨s.flk.notices, by simp [setEnable, Pre.enabledBy, hstate, State.printerAt]⟩

theorem setEnable_disables {s : State} (h : s.pre.halted) : setEnable false s = disableNow s := by
  obtain h | h | h := h <;> simp [setEnable, h]

/-- With LOG_FULL out of the way PRINT-SET changes the print engine, and by a disable that takes effect the log. -/
theorem setEnable_unheld {on : Bool} {s : State} (hfull : on = false → s.pre.halted → s.rnc.hold.logFull = false) :
    ∃ d q, setEnable on s = { s.printerAt (s.pre.enabledBy on) q with dlg := d } ∧
      (on = false → s.pre.halted → d.Unprinted) ∧ (on = true ∨ ¬s.pre.halted → d = s.dlg) := by
  by_cases h : on = true ∨ ¬s.pre.halted
  · obtain ⟨q, hq⟩ := setEnable_keepsLog h
    refine ⟨s.dlg, q, hq, fun hoff hhalted => ?_, fun _ => rfl⟩
    exact absurd h (by simp [hoff, hhalted])
  · obtain ⟨hoff, hhalted⟩ : on = false ∧ s.pre.halted := by simpa using h
    subst hoff
    obtain ⟨q, hq⟩ := disableNow_eq (s := s) (d := s.dlg.cancelled)
      fun p => clearPrintMarks_unheld (s := s.withPre p) (hfull rfl hhalted)
    have hpre : s.pre.enabledBy false = s.pre.off := by
      obtain h | h | h := hhalted <;> simp [Pre.enabledBy, h]
    exact ⟨_, q, by rw [setEnable_disables hhalted, hpre, hq], fun _ _ => s.dlg.unprinted_cancelled,
      fun hno => absurd hno h⟩

theorem enabledBy_idle {on : Bool} {p : Pre} (h : (p.enabledBy on).state = .idle) :
    on = true ∧ (p.state = .disabled ∨ p.state = .idle) ∧ (p.enabledBy on).slots = p.slots := by
  cases on <;> cases hstate : p.state <;> simp [Pre.enabledBy, Pre.off, hstate] at h ⊢

/-- The reply's fields from the settings, and from what the enable or disable made of the engine. -/
theorem printSetPayload_eq {s : State} {baud timeout : Byte} (hrate : s.pre.baud.code = baud.toNat)
    (htimeout : s.pre.timeout = min 60 timeout.toNat) : printSetPayload s =
      [if s.pre.enable then 1#8 else 0#8] ++ [baud] ++ le8 (min 60 timeout.toNat) ++ le8 s.pre.state.code ++
        [if s.pre.disPending then 1#8 else 0#8] ++ le8 s.pre.slots.length := by
  have hbaud : le8 s.pre.baud.code = [baud] := by rw [hrate, le8, BitVec.ofNat_toNat, BitVec.setWidth_eq]
  have hflag (b : Bool) : le8 (yesNo b) = [if b then 1#8 else 0#8] := by cases b <;> rfl
  rw [printSetPayload, hbaud, htimeout, hflag, hflag]

section
variable {s : State} {en baud timeout : Byte} {title : List Byte} {on : Bool} {rate : Baud}

/-- An accepted PRINT-SET, when no engine and no line follows from it. -/
theorem printSet_leaves {t : State} (ht : exec (.printSet en baud timeout title) s = .next t) (h : s.quiet)
    (hdo : ∀ t, setEnable on (s.taken.withPre (s.pre.set rate timeout title)) = t →
      doPrintSet en baud timeout title s.taken = place (replyFrame 0x19#8 (printSetPayload t)) t)
    (hfull : on = false → s.pre.halted → s.rnc.hold.logFull = false)
    (hslots : on = true → s.pre.state = .disabled → s.pre.slots = []) :
    t.pre = (s.pre.set rate timeout title).enabledBy on ∧
      t.flk.wire = replyWire (replyFrame 0x19#8 (printSetPayload t)) ∧
      (on = false → s.pre.halted → t.dlg.Unprinted) ∧ (on = true ∨ ¬s.pre.halted → t.dlg = s.dlg) := by
  have ⟨⟨⟨htodo, hprint, hstream, hstruck⟩, _⟩, _, hwire, _, _⟩ := h
  obtain ⟨d, q, hset, hcleared, hkept⟩ :=
    setEnable_unheld (on := on) (s := s.taken.withPre (s.pre.set rate timeout title)) hfull
  have hnothing : ((s.pre.set rate timeout title).enabledBy on).state = .idle →
      ({ (s.taken.withPre (s.pre.set rate timeout title)).printerAt
        ((s.pre.set rate timeout title).enabledBy on) q with dlg := d } : State).nothingToPrint := by
    intro hidle
    obtain ⟨hon, hstate, hsame⟩ := enabledBy_idle hidle
    obtain hoff | hwas := hstate
    · exact .inl (hsame.trans (hslots hon hoff))
    · have hnone := hprint hwas
      rw [hkept (.inl hon)]
      simp only [State.nothingToPrint, runMarked, State.printerAt, hsame]
      exact hnone
  obtain ⟨u, hu, hpre, hreply, hprinted, hdlg⟩ :=
    request_leaves (i := .printSet en baud timeout title) h (hdo _ hset) htodo hnothing hstruck rfl hwire
  obtain rfl : t = u := Host.Outcome.next.inj (ht.symm.trans hu)
  have hpayload : printSetPayload t = printSetPayload (s.withPre ((s.pre.set rate timeout title).enabledBy on)) :=
    congrArg (fun p => printSetPayload (s.withPre p)) hpre
  refine ⟨hpre, by rw [hpayload, hreply]; rfl, fun hoff hhalted => hprinted (hcleared hoff hhalted), fun hno => ?_⟩
  have hd := hkept hno
  subst hd
  exact hdlg hstream

/-- Whatever follows, the settings are stored. -/
theorem printSet_stores (h : s.quiet)
    (hdo : ∀ t, setEnable on (s.taken.withPre (s.pre.set rate timeout title)) = t →
      doPrintSet en baud timeout title s.taken = place (replyFrame 0x19#8 (printSetPayload t)) t) :
    ∃ t, exec (.printSet en baud timeout title) s = .next t ∧
      t.pre.settings = (s.pre.set rate timeout title).settings := by
  obtain ⟨t, ht, hset⟩ := request_settings (.printSet en baud timeout title) h
  refine ⟨t, ht, hset.trans ?_⟩
  change (doPrintSet en baud timeout title s.taken).pre.settings = _
  rw [hdo _ rfl, place_pre, setEnable_pre]
  cases on <;> cases hstate : s.pre.state <;> simp [Pre.enabledBy, State.withPre, Pre.set, hstate] <;> rfl

end

/-- Settles O30: the refusals; the settings stored whatever follows (`printSet_stores`), and otherwise what an enable or a
disable makes of the engine, its log and the reply (`printSet_leaves`). -/
theorem printSetStoresItsSettings : Obligations.PrintSetStoresItsSettings := by
  intro s en baud timeout title hq bad
  refine ⟨fun hbad => request_answered _ hq _ (doPrintSet_refuses timeout s.taken hbad), fun hok => ?_⟩
  obtain ⟨on, rate, hon, hrate, hdo⟩ := doPrintSet_stores timeout s.taken hok
  obtain ⟨t, ht, hset⟩ := printSet_stores hq hdo
  simp only [Pre.settings, Pre.set, Prod.mk.injEq] at hset
  obtain ⟨hbaud, htimeout, htitle⟩ := hset
  have hleaves := printSet_leaves ht hq hdo
  have hcode : t.pre.baud.code = baud.toNat := by rw [hbaud, hrate]
  have hyes : en = 1#8 → on = true := fun he => hon.elim And.right fun h => by simp [he] at h
  have hno : en = 0#8 → on = false := fun he => hon.elim (fun h => by simp [he] at h) And.right
  refine ⟨t, ht, htimeout, hcode, htitle, fun he hstate hslots => ?enables, fun he hstate => ?takesBack,
    fun he hstate => ?disabled, fun he hstate => ?waits, fun he hstate hfull => ?disables, fun hslots hfull => ?reply⟩
  case enables =>
    obtain ⟨hpre, -⟩ := hleaves (by simp [hyes he]) fun _ _ => hslots
    simp [hpre, hyes he, Pre.enabledBy, Pre.set, hstate]
  case takesBack =>
    obtain ⟨hpre, -⟩ := hleaves (by simp [hyes he]) fun _ hoff => absurd hoff hstate
    cases hs : s.pre.state
    case disabled => exact absurd hs hstate
    all_goals simp [hpre, hyes he, Pre.enabledBy, Pre.set, hs]
  case disabled =>
    have hrunning : ¬s.pre.halted := by simp [Pre.halted, hstate]
    obtain ⟨hpre, -, -, hdlg⟩ := hleaves (fun _ hh => absurd hh hrunning) (by simp [hno he])
    refine ⟨?_, hdlg (.inr hrunning)⟩
    simp [hpre, hno he, Pre.enabledBy, Pre.set, hstate]
  case waits =>
    have hrunning : ¬s.pre.halted := by simp [Pre.halted, hstate]
    obtain ⟨hpre, -⟩ := hleaves (fun _ hh => absurd hh hrunning) (by simp [hno he])
    simp [hpre, hno he, Pre.enabledBy, Pre.set, hstate]
  case disables =>
    have hhalted : s.pre.halted := hstate
    obtain ⟨hpre, -, hprinted, -⟩ := hleaves (fun _ _ => hfull) (by simp [hno he])
    have hoff : t.pre = (s.pre.set rate timeout title).off := by
      obtain hs | hs | hs := hstate <;> simp [hpre, hno he, Pre.enabledBy, Pre.set, hs]
    rw [hoff]
    exact ⟨rfl, rfl, rfl, rfl, rfl, (hprinted (hno he) hhalted).1⟩
  case reply =>
    obtain ⟨-, hreply, -⟩ := hleaves (fun _ _ => hfull) fun _ => hslots
    rw [hreply, printSetPayload_eq hcode htimeout]
    cases t.pre.state <;> rfl

end Sys2Proof.Machine
end

section
/-! PROOFS. PRINT-CANCEL (R192); O31. -/

namespace Sys2Proof.Machine

/-! ### What becomes of the line (R192) -/

/-- The slots are free, and no record is in print. -/
def Pre.cleared (p : Pre) : Pre := { p with inPrint := none, slots := [] }

/-- With the line dealt with: IDLE, or DISABLED if a disable was pending. -/
def Pre.idled (p : Pre) : Pre :=
  if p.disPending then p.off else { p with state := .idle, line := none, busyTimer := false }

/-- The closing CR LF of a line. -/
def Line.closing (l : Line) : Line := { rest := crlf, sent := 0, kind := .crlf, slot := l.slot, baud := l.baud }

/-- A character of the line has been sent, and the line is no closing CR LF yet. -/
def Pre.toClose (p : Pre) : Prop := ∃ l, p.line = some l ∧ l.kind ≠ .crlf ∧ 0 < l.sent

/-- A closing CR LF has a character on the wire. -/
def Pre.closes (p : Pre) : Prop := ∃ l, p.line = some l ∧ l.kind = .crlf ∧ p.onWire ≠ none ∧ 0 < l.sent

/-- What PRINT-CANCEL makes of the print engine. -/
inductive Pre.Cancelled (p : Pre) : Pre → Prop where
  | begun (l : Line) (h : p.line = some l) (ht : p.toClose) (hc : ¬p.closes) :
      p.Cancelled { p.cleared with line := some l.closing }
  | closing (ht : ¬p.toClose) (hc : p.closes) : p.Cancelled p.cleared
  | done (ht : ¬p.toClose) (hc : ¬p.closes) : p.Cancelled p.cleared.idled

theorem Pre.Cancelled.keeps {p p' : Pre} (h : p.Cancelled p') :
    p'.slots = [] ∧ p'.inPrint = none ∧ p'.onWire = p.onWire ∧ p'.title = p.title := by
  cases h
  case done =>
    unfold Pre.idled
    split <;> exact ⟨rfl, rfl, rfl, rfl⟩
  all_goals exact ⟨rfl, rfl, rfl, rfl⟩

/-- The line is dealt with: IDLE, or the disable takes effect, the marks cleared again leaving the log `d`. -/
theorem cancelDone_eq {c : State} {p : Pre} {d : Dlg}
    (hagain : ∀ p, clearPrintMarks (c.withPre p) = { c.withPre p with dlg := d }) :
    ∃ q d', cancelDone (c.withPre p) = { c.printerAt p.idled q with dlg := d' } ∧ (d' = c.dlg ∨ d' = d) := by
  cases hpend : p.disPending
  · obtain ⟨q, hq⟩ := setPre_eq .idle { p with line := none, busyTimer := false } c
    have hdone : cancelDone (c.withPre p) = setPre .idle (c.withPre { p with line := none, busyTimer := false }) :=
      if_neg (by simp [State.withPre, hpend])
    have hidled : p.idled = { p with state := .idle, line := none, busyTimer := false } := if_neg (by simp [hpend])
    exact ⟨q, c.dlg, by rw [hdone, hidled, hq]; rfl, .inl rfl⟩
  · obtain ⟨q, hq⟩ := disableNow_eq (s := c.withPre p) (d := d) hagain
    have hdone : cancelDone (c.withPre p) = disableNow (c.withPre p) := if_pos hpend
    have hidled : p.idled = p.off := if_pos hpend
    exact ⟨q, d, by rw [hdone, hidled, hq]; rfl, .inr rfl⟩

/-- The line of a cancelled print: closed by CR LF, left to end, or dropped (R192). -/
def cancelLine (s : State) : State :=
  match s.pre.line with
  | none => cancelDone s
  | some l =>
    if l.kind = .crlf then if s.pre.onWire.isNone || l.sent = 0 then cancelDone s else s
    else if 0 < l.sent then { s with pre.line := some l.closing }
    else cancelDone s

theorem cancelPrint_line (s : State) : cancelPrint s =
    cancelLine { clearPrintMarks (s.withPre { s.pre with inPrint := none }) with pre.slots := [] } := rfl

section
variable {s : State} {l : Line}

theorem cancelLine_none (h : s.pre.line = none) : cancelLine s = cancelDone s := by
  rw [cancelLine, h]

theorem cancelLine_closes (h : s.pre.closes) : cancelLine s = s := by
  obtain ⟨l, hl, hkind, hwire, hsent⟩ := h
  have hgo : ¬(s.pre.onWire.isNone || decide (l.sent = 0)) = true := by
    simp [hwire, Nat.pos_iff_ne_zero.mp hsent]
  rw [cancelLine, hl]
  exact (if_pos hkind).trans (if_neg hgo)

theorem cancelLine_toClose (h : s.pre.line = some l) (ht : s.pre.toClose) :
    cancelLine s = { s with pre.line := some l.closing } := by
  obtain ⟨l', hl, hkind, hsent⟩ := ht
  obtain rfl : l' = l := Option.some.inj (hl.symm.trans h)
  rw [cancelLine, h]
  exact (if_neg hkind).trans (if_pos hsent)

theorem cancelLine_done (ht : ¬s.pre.toClose) (hc : ¬s.pre.closes) : cancelLine s = cancelDone s := by
  cases hl : s.pre.line with
  | none => exact cancelLine_none hl
  | some l =>
    rw [cancelLine, hl]
    by_cases hkind : l.kind = .crlf
    · have hgo : (s.pre.onWire.isNone || decide (l.sent = 0)) = true := by
        by_contra hstay
        simp only [Bool.or_eq_true, not_or, Option.isNone_iff_eq_none, decide_eq_true_eq] at hstay
        exact hc ⟨l, hl, hkind, hstay.1, Nat.pos_of_ne_zero hstay.2⟩
      exact (if_pos hkind).trans (if_pos hgo)
    · exact (if_neg hkind).trans (if_neg fun hsent => ht ⟨l, hl, hkind, hsent⟩)

end

/-- The slots freed and the marks cleared, to leave the state `c`: the three ways on. -/
theorem cancelPrint_eq {s c : State} {d : Dlg} (hc : clearPrintMarks (s.withPre { s.pre with inPrint := none }) = c)
    (hagain : ∀ p, clearPrintMarks (c.withPre p) = { c.withPre p with dlg := d }) :
    ∃ p q d', cancelPrint s = { c.printerAt p q with dlg := d' } ∧ s.pre.Cancelled p ∧ (d' = c.dlg ∨ d' = d) := by
  have hpre : c.pre = { s.pre with inPrint := none } := by rw [← hc, clearPrintMarks_pre]; rfl
  have hcleared : ({ c with pre.slots := [] } : State) = c.withPre s.pre.cleared := by rw [hpre]; rfl
  have hline : cancelPrint s = cancelLine (c.withPre s.pre.cleared) := by
    rw [cancelPrint_line, hc]
    exact congrArg cancelLine hcleared
  by_cases ht : s.pre.toClose
  · obtain ⟨l, hl, hkind, hsent⟩ := id ht
    have hopen : ¬s.pre.closes := by simp [Pre.closes, hl, hkind]
    exact ⟨{ s.pre.cleared with line := some l.closing }, c.flk.notices, c.dlg,
      hline.trans (cancelLine_toClose (s := c.withPre s.pre.cleared) hl ht), .begun l hl ht hopen, .inl rfl⟩
  · by_cases hclosing : s.pre.closes
    · exact ⟨s.pre.cleared, c.flk.notices, c.dlg,
        hline.trans (cancelLine_closes (s := c.withPre s.pre.cleared) hclosing), .closing ht hclosing, .inl rfl⟩
    · obtain ⟨q, d', hdone, hd⟩ := cancelDone_eq (p := s.pre.cleared) hagain
      have hidle := cancelLine_done (s := c.withPre s.pre.cleared) ht hclosing
      exact ⟨_, q, d', (hline.trans hidle).trans hdone, .done ht hclosing, hd⟩

/-! ### Without LOG_FULL in the hold set -/

section
variable {p p' : Pre} (h : p.Cancelled p')
include h

theorem Pre.Cancelled.eq_of_toClose {l : Line} (hl : p.line = some l) (ht : p.toClose) :
    p' = { p.cleared with line := some l.closing } := by
  cases h with
  | begun l' h' _ _ =>
    obtain rfl : l' = l := Option.some.inj (h'.symm.trans hl)
    rfl
  | closing hno _ => exact absurd ht hno
  | done hno _ => exact absurd ht hno

theorem Pre.Cancelled.eq_of_closes (hc : p.closes) : p' = p.cleared := by
  cases h with
  | begun _ _ _ hno => exact absurd hc hno
  | closing _ _ => rfl
  | done _ hno => exact absurd hc hno

theorem Pre.Cancelled.eq_of_done (ht : ¬p.toClose) (hc : ¬p.closes) : p' = p.cleared.idled := by
  cases h with
  | begun _ _ hyes _ => exact absurd hyes ht
  | closing _ hyes => exact absurd hyes hc
  | done _ _ => rfl

end

/-- The reply to PRINT-CANCEL, with the state it leaves. -/
def cancelReply (s : State) (st : PreState) : Frame := replyFrame 0x1A#8 (le8 st.code ++ le16 (cancelCount s))

theorem doPrintCancel_cancels {s t : State} (h : s.pre.state ≠ .disabled) (ht : cancelPrint s = t) :
    doPrintCancel s = place (cancelReply s t.pre.state) t := by
  subst ht
  exact if_neg h

/-- PRINT-CANCEL, when no run goes on from it. -/
theorem printCancel_leaves {s : State} (h : s.quiet) (hstate : s.pre.state ≠ .disabled) (hfull : s.rnc.hold.logFull = false) :
    ∃ t, request .printCancel s = .next t ∧ s.pre.Cancelled t.pre ∧ t.dlg.Unprinted ∧
      t.flk.wire = replyWire (cancelReply s t.pre.state) := by
  have ⟨⟨⟨htodo, _, _, hstruck⟩, _⟩, _, hwire, _, _⟩ := h
  obtain ⟨p, q, d, hcancel, hp, hd⟩ := cancelPrint_eq (s := s.taken) (d := s.dlg.cancelled.cancelled)
    (clearPrintMarks_unheld hfull) fun p =>
      clearPrintMarks_unheld (s := State.withPre p { s.taken with dlg := s.dlg.cancelled }) hfull
  have hclean : d.Unprinted := by
    obtain rfl | rfl := hd
    · exact s.dlg.unprinted_cancelled
    · exact s.dlg.cancelled.unprinted_cancelled
  have hslots : p.slots = [] := hp.keeps.1
  obtain ⟨t, ht, hpre, hreply, hprinted, -⟩ := request_leaves (i := .printCancel) h
    (doPrintCancel_cancels (s := s.taken) hstate hcancel) htodo (fun _ => .inl hslots) hstruck rfl hwire
  exact ⟨t, ht, by rw [hpre]; exact hp, hprinted hclean, by rw [hreply, hpre]; rfl⟩

/-! ### The run that LOG_FULL held (R98, R102, R174) -/

theorem removeHold_dlg (rs : List HoldReason) (s : State) : (removeHold rs s).dlg = s.dlg := by
  by_cases hgo : s.rnc.state = .held ∧ s.rnc.hold.remove rs = .empty ∧ s.rnc.hold ≠ .empty
  · obtain ⟨hheld, hnone, hsome⟩ := hgo
    obtain ⟨q, hr⟩ := removeHold_continues hheld hnone hsome
    rw [hr]
    cases hwaits : s.rnc.waits <;> rfl
  · obtain ⟨q, hr⟩ := removeHold_stays hgo
    rw [hr]

/-- The records that are left in the log when their print marks are cleared: those for the host. -/
def Dlg.hostOnly (d : Dlg) : List Rec := (d.recs.map Rec.unmarked).filter (·.host)

theorem Dlg.mem_hostOnly {d : Dlg} {r : Rec} (h : r ∈ d.hostOnly) : r.host = true ∧ ∃ x ∈ d.recs, x.unmarked = r := by
  obtain ⟨hmem, hhost⟩ := List.mem_filter.mp h
  exact ⟨hhost, List.mem_map.mp hmem⟩

/-- With the entry place empty and a record that only waits for print, a slot frees. -/
theorem clearPrintMarks_releases {s : State} (hentry : s.dlg.entry = none) (hres : s.dlg.reserved = false)
    (hlen : s.dlg.recs.length ≤ 256) (hfree : ∃ r ∈ s.dlg.recs, r.host = false) :
    clearPrintMarks s = removeHold [.logFull] (s.withLog s.dlg.hostOnly) := by
  obtain ⟨r, hr, hhost⟩ := hfree
  have hbare : ∀ x ∈ s.dlg.recs.map Rec.unmarked, (x.host || x.print) = x.host := by simp [Rec.unmarked]
  have hleaves : ¬∀ x ∈ s.dlg.recs.map Rec.unmarked, (x.host || x.print) = true := fun hall => by
    have hmarked := hall _ (List.mem_map_of_mem hr)
    simp [Rec.unmarked, hhost] at hmarked
  have hunmarked : clearPrintMarks s = sweep (s.withLog (s.dlg.recs.map Rec.unmarked)) := by
    have hsame : s.dlg.unmarked = { s.dlg with recs := s.dlg.recs.map Rec.unmarked } := by
      rw [Dlg.unmarked, hentry, Option.map_none, ← hentry]
    exact congrArg (fun d => sweep { s with dlg := d }) hsame
  have hkept : (s.withLog (s.dlg.recs.map Rec.unmarked)).kept = s.withLog s.dlg.hostOnly :=
    congrArg (fun rs => s.withLog rs) (List.filter_congr hbare)
  have hshort : s.dlg.hostOnly.length < s.dlg.recs.length := by
    have hlt : s.dlg.hostOnly.length < (s.dlg.recs.map Rec.unmarked).length :=
      List.length_filter_lt_length_iff_exists.mpr ⟨_, List.mem_map_of_mem hr, by simp [Rec.unmarked, hhost]⟩
    rwa [List.length_map] at hlt
  have hslot : 0 < (s.withLog s.dlg.hostOnly).dlg.freeSlots := by
    rw [Dlg.freeSlots_pos_iff]
    simp only [State.withLog, hres, Bool.false_eq_true, if_false]
    omega
  rw [hunmarked, sweep_leaves hleaves, hkept, entryTaken_none (s := s.withLog s.dlg.hostOnly) hentry]
  exact if_pos (Bool.and_eq_true_iff.mpr ⟨Option.isNone_iff_eq_none.mpr hentry, decide_eq_true hslot⟩)

/-- The marks once cleared, clearing them again changes nothing. -/
theorem clearPrintMarks_hostOnly {s : State} {d : Dlg} (hentry : s.dlg.entry = none) (hrecs : s.dlg.recs = d.hostOnly) :
    clearPrintMarks s = s := by
  have hclean : s.dlg.unmarked = s.dlg := by
    have hsame : s.dlg.recs.map Rec.unmarked = s.dlg.recs := by
      refine List.map_congr_left (fun r hr => ?_) |>.trans s.dlg.recs.map_id
      obtain ⟨-, x, -, rfl⟩ := Dlg.mem_hostOnly (hrecs ▸ hr)
      rfl
    rw [Dlg.unmarked, hsame, hentry, Option.map_none, ← hentry]
  have hmarked : ∀ r ∈ s.dlg.recs, (r.host || r.print) = true := fun r hr => by
    rw [(Dlg.mem_hostOnly (hrecs ▸ hr)).1, Bool.true_or]
  exact (congrArg (fun d => sweep { s with dlg := d }) hclean).trans (sweep_marked hmarked)

/-- With its slots free the printer stays as it is, whatever work follows a request. -/
theorem workedOff_pre {s : State} (h : s.pre.slots = []) : s.workedOff.pre = s.pre := by
  have hwake (t : State) (ht : t.pre = s.pre) : (wakePrint t).pre = s.pre := by
    rw [wakePrint_settled fun _ => .inl (ht ▸ h), ht]
  simp only [State.workedOff, streamFill_pre, transmit_pre]
  exact hwake _ (by simp)

/-- A request that removes LOG_FULL from the hold set of a live run and leaves the printer, its slots free, as `p`. -/
theorem request_releasesPrinter {s x c : State} {i : Instr} {f : Frame} {p₀ p : Pre} {q : List Notice} (hq : s.quiet)
    (hx : (x.withPre p).settled) (hsame : x.flk = s.taken.flk ∧ x.mxc = s.mxc) (hfull : x.rnc.hold.logFull = true)
    (hlive : x.live = true) (hbatch : x.rnc.state = .held → s.mxc.batch = none) (hslots : p.slots = [])
    (hc : removeHold [.logFull] (x.withPre p₀) = c) (hdo : carryOut i s.taken = place f (c.printerAt p q)) :
    ∃ t, request i s = .next t ∧ t.pre = p ∧ x.releasedTo { x.rnc.hold with logFull := false } t := by
  obtain ⟨hflk, hmxc⟩ := hsame
  have ⟨_, _, hwire, _, _⟩ := hq
  have hwire : x.flk.wire = none := by rw [hflk]; exact hwire
  have hbusy : x.flk.busy = true := by rw [hflk]; rfl
  have hkeep : x.mxc.batch = none → s.mxc.batch = none := by rw [hmxc]; exact id
  obtain ⟨hstate, hverd⟩ := (State.live_iff x).mp hlive
  have hsome : x.rnc.hold ≠ .empty := fun h => by rw [h] at hfull; cases hfull
  by_cases hgo : x.rnc.state = .held ∧ x.rnc.hold.remove [.logFull] = .empty
  · obtain ⟨hheld, hnone⟩ := hgo
    obtain ⟨_, hr⟩ := removeHold_continues (rs := [.logFull]) (s := x.withPre p₀) hheld hnone hsome
    cases hwaits : x.rnc.waits with
    | false =>
      obtain rfl := hc.symm.trans (hr.trans (if_neg (by simp [State.withPre, hwaits])))
      exact ⟨_, request_answers i hq _ _ hdo hx hwire hbusy hkeep, rfl, fun hstay => absurd ⟨hheld, hnone⟩ hstay,
        fun _ _ => ⟨fun _ => ⟨rfl, rfl, rfl⟩, fun hw => absurd hw (by simp [hwaits])⟩⟩
    | true =>
      obtain rfl := hc.symm.trans (hr.trans (if_pos hwaits))
      exact ⟨_, request_worksOff i hq _ hdo (hbatch hheld), workedOff_pre hslots,
        fun hstay => absurd ⟨hheld, hnone⟩ hstay,
        fun _ _ => goingOn_wentOn f q hx hheld hverd hwaits hwire⟩
  · obtain ⟨_, hr⟩ := removeHold_stays (rs := [.logFull]) (s := x.withPre p₀) fun h => hgo ⟨h.1, h.2.1⟩
    obtain rfl := hc.symm.trans hr
    exact ⟨_, request_answers i hq _ _ hdo hx hwire hbusy hkeep, rfl,
      fun _ => ⟨rfl, rfl, rfl⟩, fun hheld hempty => absurd ⟨hheld, hempty⟩ hgo⟩

/-- PRINT-CANCEL, when the clearing frees a slot and LOG_FULL leaves the hold set of a live run. -/
theorem printCancel_releases {s : State} (hq : s.quiet) (hon : s.pre.state ≠ .disabled)
    (hfull : s.rnc.hold.logFull = true) (hlive : s.live = true) (hbatch : s.rnc.state = .held → s.mxc.batch = none)
    (hentry : s.dlg.entry = none) (hres : s.dlg.reserved = false) (hlen : s.dlg.recs.length ≤ 256)
    (hfree : ∃ r ∈ s.dlg.recs, r.host = false) :
    ∃ t, request .printCancel s = .next t ∧ t.pre.slots = [] ∧ t.pre.inPrint = none ∧
      (s.taken.withLog s.dlg.hostOnly).releasedTo { s.rnc.hold with logFull := false } t := by
  have ⟨⟨⟨htodo, _, hstream, hstruck⟩, _⟩, _⟩ := hq
  have hclear := clearPrintMarks_releases (s := s.taken.withPre { s.pre with inPrint := none }) hentry hres hlen hfree
  obtain ⟨c, hc⟩ : ∃ c, removeHold [.logFull]
      ((s.taken.withLog s.dlg.hostOnly).withPre { s.pre with inPrint := none }) = c := ⟨_, rfl⟩
  have hdlg : c.dlg = { s.dlg with recs := s.dlg.hostOnly } := by rw [← hc, removeHold_dlg]; rfl
  have hagain (p : Pre) : clearPrintMarks (c.withPre p) = c.withPre p :=
    clearPrintMarks_hostOnly (d := s.dlg) (by simp [State.withPre, hdlg, hentry]) (by simp [State.withPre, hdlg])
  obtain ⟨p, q, d, hcancel, hp, hd⟩ := cancelPrint_eq (s := s.taken) (d := c.dlg) (hclear.trans hc) hagain
  obtain rfl : d = c.dlg := hd.elim id id
  obtain ⟨hslots, hinPrint, -⟩ := hp.keeps
  have hleft : (s.taken.withLog s.dlg.hostOnly).dlg.StreamQuiet := hstream.imp id fun hall r hr hhost => by
    obtain ⟨-, x, hx, rfl⟩ := Dlg.mem_hostOnly hr
    exact hall x hx hhost
  have hx : ((s.taken.withLog s.dlg.hostOnly).withPre p).settled := ⟨htodo, fun _ => .inl hslots, hleft, hstruck⟩
  obtain ⟨t, ht, hpre, hrelease⟩ := request_releasesPrinter (i := .printCancel) hq hx ⟨rfl, rfl⟩ hfull hlive hbatch
    hslots hc (doPrintCancel_cancels (s := s.taken) hon hcancel)
  exact ⟨t, ht, hpre ▸ hslots, hpre ▸ hinPrint, hrelease⟩

/-- Settles O31: DISABLED; the marks, the slots and the line (`printCancel_leaves`, `Pre.Cancelled`); and the run that goes on
when the clearing frees a slot (`printCancel_releases`). -/
theorem printCancelClearsThePrinter : Obligations.PrintCancelClearsThePrinter := by
  intro s hq
  refine ⟨fun hoff => ?disabled, fun hon hfull => ?unheld,
    fun hon hfull hlive hbatch hentry hres hlen hfree =>
      printCancel_releases hq hon hfull hlive hbatch hentry hres hlen hfree⟩
  case disabled =>
    refine request_answered _ hq _ ((if_pos hoff).trans ?_)
    rw [show s.taken.pre.state = .disabled from hoff]
    rfl
  case unheld =>
    intro toClose closing st
    obtain ⟨t, ht, hp, hclean, hreply⟩ := printCancel_leaves hq hon hfull
    obtain ⟨hslots, hinPrint, honWire, htitle⟩ := hp.keeps
    refine ⟨t, ht, hslots, hinPrint, hclean.1, hclean.2, honWire, htitle, ?_, fun l hl hopen _ => ?_,
      fun hclosing _ => ?_, fun hopen hclosing => ?_⟩
    · rw [hreply]
      simp only [st, cancelReply]
      cases t.pre.state <;> rfl
    · rw [hp.eq_of_toClose hl hopen]
      exact ⟨rfl, rfl, rfl, rfl, rfl⟩
    · rw [hp.eq_of_closes hclosing]
      exact ⟨rfl, rfl⟩
    · rw [hp.eq_of_done hopen hclosing]
      cases hpend : s.pre.disPending <;> simp [Pre.idled, Pre.cleared, Pre.off, hpend]

end Sys2Proof.Machine
end

section
/-! PROOFS. The command at the front of the queue, and the requests that only read; O1, O2. -/

namespace Sys2Proof.Machine

/-- Settles O1: the step is carried out on the queue's front, and an empty queue has none. -/
theorem stepTakesTheFrontCommand : Obligations.StepTakesTheFrontCommand := by
  intro c rest s
  refine ⟨rfl, fun hempty => ?_⟩
  unfold step
  rw [hempty]

/-- Settles O2: each of the three only answers (`request_answered`), and what it reads the acceptance of its frame has left as
it was. -/
theorem readRequestsAnswerAtOnce : Obligations.ReadRequestsAnswerAtOnce := fun _ h =>
  ⟨request_answered .identify h _ rfl, request_answered .netSum h _ rfl, request_answered .runRead h _ rfl⟩

end Sys2Proof.Machine
end

section
/-! PROOFS. The frame check, and the assembler through a whole frame and at each byte; O54, O53. -/

namespace Sys2Proof.Machine

/-! ### The frame check (R195) -/

/-- The sum of a frame's bytes modulo 256 is that of their numbers. -/
theorem toNat_foldl_add (bs : List Byte) (b : Byte) :
    (bs.foldl (· + ·) b).toNat = ((bs.map BitVec.toNat).sum + b.toNat) % 256 := by
  induction bs generalizing b with
  | nil => simp [Nat.mod_eq_of_lt b.isLt]
  | cons x bs ih =>
    rw [List.foldl_cons, ih, BitVec.toNat_add, List.map_cons, List.sum_cons]
    omega

/-- The check passes exactly when L, type, payload and check sum to 0 modulo 256 (R195). -/
theorem checkPasses_iff (l : Nat) (got : List Byte) (check : Byte) :
    checkPasses l got check = true ↔ ((got.map BitVec.toNat).sum + l + check.toNat) % 256 = 0 := by
  unfold checkPasses
  rw [beq_iff_eq, ← BitVec.toNat_inj, BitVec.toNat_add, toNat_foldl_add, BitVec.toNat_ofNat]
  change _ % 256 = 0 ↔ _
  omega

/-- The check byte that a frame is sent with passes (R195). -/
theorem checkPasses_sent (l : Byte) (got : List Byte) : checkPasses l.toNat got (-got.foldl (· + ·) l) = true := by
  unfold checkPasses
  rw [BitVec.ofNat_toNat, BitVec.setWidth_eq, BitVec.add_right_neg]
  rfl

/-! ### Each byte (R196) -/

theorem asmByte_length_taken {b : Byte} (h : 1 ≤ b.toNat ∧ b.toNat ≤ 250) :
    asmByte .length b = (.body b.toNat [], .none) := if_neg (by omega)

theorem asmByte_length_discard {b : Byte} (h : ¬(1 ≤ b.toNat ∧ b.toNat ≤ 250)) :
    asmByte .length b = (.hunt, .discard) := if_pos (by omega)

theorem asmByte_body (l : Nat) (got : List Byte) (b : Byte) : asmByte (.body l got) b =
    (if l ≤ got.length + 1 then .check l (got ++ [b]) else .body l (got ++ [b]), .none) := by
  simp only [asmByte, List.length_append, List.length_singleton]

theorem asmByte_check_accept {l : Nat} {t b : Byte} {p : List Byte} (h : checkPasses l (t :: p) b = true) :
    asmByte (.check l (t :: p)) b = (.hunt, .accept t p) := if_pos h

theorem asmByte_check_discard {l : Nat} {got : List Byte} {b : Byte} (h : checkPasses l got b = false) :
    asmByte (.check l got) b = (.hunt, .discard) := if_neg (by simp [h])

/-! ### A whole frame (R195, R196) -/

/-- The assembler and what its bytes have brought about so far, one byte on. -/
def asmRun (acc : Asm × List AsmResult) (b : Byte) : Asm × List AsmResult :=
  ((asmByte acc.1 b).1, acc.2 ++ [(asmByte acc.1 b).2])

/-- The type and the payload are stored until L bytes are, and bring about nothing. -/
theorem asmRun_body {l : Nat} {bs : List Byte} (hbs : bs ≠ []) (got : List Byte) (rs : List AsmResult)
    (hl : got.length + bs.length = l) :
    bs.foldl asmRun (.body l got, rs) = (.check l (got ++ bs), rs ++ List.replicate bs.length .none) := by
  induction bs generalizing got rs with
  | nil => exact absurd rfl hbs
  | cons b bs ih =>
    have hstep : asmRun (.body l got, rs) b =
        (if l ≤ got.length + 1 then .check l (got ++ [b]) else .body l (got ++ [b]), rs ++ [.none]) := by
      simp only [asmRun, asmByte_body]
    rw [List.foldl_cons, hstep]
    cases bs with
    | nil =>
      have hlast : l ≤ got.length + 1 := Nat.le_of_eq hl.symm
      rw [if_pos hlast]
      rfl
    | cons c cs =>
      have hmore : ¬l ≤ got.length + 1 := by simp only [List.length_cons] at hl; omega
      have hlen : (got ++ [b]).length + (c :: cs).length = l := by
        simp only [List.length_append, List.length_cons, List.length_nil] at hl ⊢; omega
      rw [if_neg hmore, ih (List.cons_ne_nil c cs) _ _ hlen, List.append_assoc, List.append_assoc]
      rfl

/-- Settles O54: sync and length, the L bytes stored (`asmRun_body`), and the check byte (`checkPasses_sent`). -/
theorem framesAreAssembled : Obligations.FramesAreAssembled := by
  intro f hlen
  let l : Byte := BitVec.ofNat 8 (f.payload.length + 1)
  have hl : l.toNat = f.payload.length + 1 := by
    rw [BitVec.toNat_ofNat]
    omega
  have hbytes : f.bytes = 0xC3#8 :: l :: (f.type :: f.payload ++ [-(f.type :: f.payload).foldl (· + ·) l]) := rfl
  have hhead : asmRun (asmRun (.hunt, []) 0xC3#8) l = (.body l.toNat [], [.none, .none]) := by
    change ((asmByte .length l).1, [AsmResult.none] ++ [(asmByte .length l).2]) = _
    rw [asmByte_length_taken (by omega)]
    rfl
  have hbody := asmRun_body (List.cons_ne_nil f.type f.payload) [] [.none, .none] (l := l.toNat) (by simp [hl])
  change f.bytes.foldl asmRun (.hunt, []) = _
  rw [hbytes, List.foldl_cons, List.foldl_cons, hhead, List.foldl_append, hbody, List.nil_append, List.foldl_cons,
    List.foldl_nil, asmRun, asmByte_check_accept (checkPasses_sent l (f.type :: f.payload))]
  rfl

/-! ### A byte, and a gap (R196) -/

/-- What a byte or a gap makes of the assembler and the discard count leaves a calm state calm: the transmitter follows. -/
theorem command_link {g : State → State} {s : State} {f : Flk} (h : s.calm) (hg : g s = { s with flk := f })
    (hf : f.requests = s.flk.requests) : command g s = .next (transmit { s with flk := f }) :=
  command_calm hg h.1 (hf.trans h.2) id

/-- A byte that brings about nothing. -/
theorem receive_none {s : State} {b : Byte} {a a' : Asm} (ha : s.flk.asm = a) (hb : asmByte a b = (a', .none)) :
    receive b s = { s with flk := { s.flk with asm := a' } } := by
  unfold receive
  rw [ha, hb]

/-- One that has the frame discarded. -/
theorem receive_discard {s : State} {b : Byte} {a a' : Asm} (ha : s.flk.asm = a) (hb : asmByte a b = (a', .discard)) :
    receive b s = { s with flk := { s.flk with asm := a', discards := min 65535 (s.flk.discards + 1) } } := by
  unfold receive
  rw [ha, hb]
  rfl

/-- One that completes an accepted frame. -/
theorem receive_accept {s : State} {l : Nat} {t b : Byte} {p : List Byte} (ha : s.flk.asm = .check l (t :: p))
    (hb : checkPasses l (t :: p) b = true) :
    receive b s = submit (decodeRequest t p) { s with flk := { s.flk with asm := .hunt } } := by
  unfold receive
  rw [ha, asmByte_check_accept hb]

/-- Settles O53: the byte in each state of the assembler (`receive_none`, `receive_discard`), and the gap. -/
theorem assemblerTakesBytes : Obligations.AssemblerTakesBytes := by
  intro s b h discarded
  refine ⟨fun ha => ⟨?hunt, ?huntGap⟩, fun ha => ?gap, fun ha => ?length, fun l got ha => ?body,
    fun l got ha hsum => ?check⟩
  case hunt => exact command_link h (receive_none ha rfl) rfl
  case huntGap => exact command_link (f := s.flk) h (if_pos ha) rfl
  case gap => exact command_link (f := discarded) h (if_neg ha) rfl
  case length =>
    by_cases hb : 1 ≤ b.toNat ∧ b.toNat ≤ 250
    · rw [if_pos hb]
      exact command_link h (receive_none ha (asmByte_length_taken hb)) rfl
    · rw [if_neg hb]
      exact command_link h (receive_discard ha (asmByte_length_discard hb)) rfl
  case body => exact command_link h (receive_none ha (asmByte_body l got b)) rfl
  case check =>
    have hfails : checkPasses l got b = false := Bool.eq_false_iff.mpr (mt (checkPasses_iff l got b).mp hsum)
    exact command_link h (receive_discard ha (asmByte_check_discard hfails)) rfl

end Sys2Proof.Machine
end

section
/-! PROOFS. Requests written as a type and payload, and read again; O55. -/

namespace Sys2Proof

open Machine

/-! ### Fields (R206) -/

theorem of16_bytes (w : Word16) : of16 (BitVec.ofNat 8 w.toNat) (BitVec.ofNat 8 (w.toNat / 256)) = w := by
  apply BitVec.eq_of_toNat_eq
  simp only [of16, BitVec.toNat_ofNat]
  omega

theorem of32_bytes (w : Word32) :
    of32 (BitVec.ofNat 8 w.toNat) (BitVec.ofNat 8 (w.toNat / 256)) (BitVec.ofNat 8 (w.toNat / 65536))
      (BitVec.ofNat 8 (w.toNat / 16777216)) = w := by
  apply BitVec.eq_of_toNat_eq
  simp only [of32, BitVec.toNat_ofNat]
  omega

/-- A count that fits in its byte is read as it is. -/
theorem count_byte {n : Nat} (h : n < 256) : (BitVec.ofNat 8 n).toNat = n := by
  rw [BitVec.toNat_ofNat, Nat.mod_eq_of_lt h]

theorem points16_bytes (pts : List Word16) : points16 (pts.flatMap bytes16) = some pts := by
  induction pts with
  | nil => rfl
  | cons p pts ih =>
    change (points16 (pts.flatMap bytes16)).map (fun ps => of16 _ _ :: ps) = _
    rw [ih, of16_bytes]
    rfl

theorem pairs16_bytes (pairs : List (Word16 × Word16)) :
    pairs16 (pairs.flatMap fun q => bytes16 q.1 ++ bytes16 q.2) = some pairs := by
  induction pairs with
  | nil => rfl
  | cons q pairs ih =>
    change (pairs16 (pairs.flatMap fun q => bytes16 q.1 ++ bytes16 q.2)).map (fun ps => (of16 _ _, of16 _ _) :: ps) = _
    rw [ih, of16_bytes, of16_bytes]
    rfl

theorem points_length (pts : List Word16) : (pts.flatMap bytes16).length = 2 * pts.length := by
  induction pts with
  | nil => rfl
  | cons p pts ih =>
    rw [List.flatMap_cons, List.length_append, ih, List.length_cons]
    change 2 + _ = _
    omega

theorem pairs_length (pairs : List (Word16 × Word16)) :
    (pairs.flatMap fun q => bytes16 q.1 ++ bytes16 q.2).length = 4 * pairs.length := by
  induction pairs with
  | nil => rfl
  | cons q pairs ih =>
    rw [List.flatMap_cons, List.length_append, ih, List.length_cons]
    change 4 + _ = _
    omega

/-! ### PLAN-ADD (R87, R206) -/

theorem readPlan_cont (b : ContBlock) : readPlan (writePlan (.cont b)) = some (.cont b) := by
  change some (PlanBlock.cont ⟨of16 _ _, of16 _ _, of16 _ _, b.range, b.n, of32 _ _ _ _, of32 _ _ _ _, b.shorts,
    of32 _ _ _ _⟩) = _
  simp only [of16_bytes, of32_bytes]

theorem readPlan_insul (b : InsulBlock) : readPlan (writePlan (.insul b)) = some (.insul b) := by
  change some (PlanBlock.insul ⟨of16 _ _, of16 _ _, of16 _ _, of16 _ _, of16 _ _, of16 _ _, of32 _ _ _ _, b.n, b.arcThr,
    b.arcCount, b.tripLevel, b.tripDelay, b.localise⟩) = _
  simp only [of16_bytes, of32_bytes]

/-- The pair count implies the length of a WATCH block (R198). -/
theorem readPlan_watch {b : WatchBlock} (h : b.pairs.length ≤ 57) : readPlan (writePlan (.watch b)) = some (.watch b) := by
  change (match pairs16 (b.pairs.flatMap fun q => bytes16 q.1 ++ bytes16 q.2) with
    | some pairs =>
      if pairs.length = (BitVec.ofNat 8 b.pairs.length).toNat then
        some (PlanBlock.watch ⟨of16 _ _, b.range, of32 _ _ _ _, of32 _ _ _ _, b.minBreak, of16 _ _, of16 _ _, pairs⟩)
      else none
    | none => none) = _
  rw [pairs16_bytes, count_byte (by omega)]
  simp only [of16_bytes, of32_bytes, if_true]

theorem readPlan_other {kind : Byte} (rest : List Byte) (h : 2 < kind.toNat) :
    readPlan (writePlan (.other kind rest)) = some (.other kind rest) := if_pos h

theorem readPlan_writePlan {b : PlanBlock} (h : b.wellFormed = true) : readPlan (writePlan b) = some b := by
  cases b with
  | cont b => exact readPlan_cont b
  | insul b => exact readPlan_insul b
  | watch b => exact readPlan_watch (of_decide_eq_true h)
  | other kind rest => exact readPlan_other rest (of_decide_eq_true (Bool.and_eq_true_iff.mp h).1)

/-- A frame carries a well-formed plan block (R195). -/
theorem writePlan_length {b : PlanBlock} (h : b.wellFormed = true) : (writePlan b).length ≤ 249 := by
  cases b with
  | cont b => exact Nat.le_of_ble_eq_true rfl
  | insul b => exact Nat.le_of_ble_eq_true rfl
  | watch b =>
    have hpairs : b.pairs.length ≤ 57 := of_decide_eq_true h
    have hlen : (writePlan (.watch b)).length = 18 + (b.pairs.flatMap fun q => bytes16 q.1 ++ bytes16 q.2).length := by
      rw [Nat.add_comm]
      rfl
    rw [hlen, pairs_length]
    omega
  | other kind rest => exact Nat.succ_le_succ (of_decide_eq_true (Bool.and_eq_true_iff.mp h).2)

/-! ### Requests (R198, R206) -/

/-- The request, written, is carried by a frame and read as itself. -/
def Instr.ReadsBack (i : Instr) : Prop :=
  ∀ t p, encodeRequest i = some (t, p) → p.length ≤ 249 ∧ decodeRequest t p = .ok i

theorem Instr.ReadsBack.of_written {i : Instr} {t : Byte} {p : List Byte} (he : encodeRequest i = some (t, p))
    (hlen : p.length ≤ 249) (hread : decodeRequest t p = .ok i) : i.ReadsBack := by
  intro t' p' he'
  rw [he] at he'
  cases he'
  exact ⟨hlen, hread⟩

theorem Instr.ReadsBack.of_event {i : Instr} (he : encodeRequest i = none) : i.ReadsBack := by
  intro t p h
  rw [he] at h
  cases h

/-- A request whose payload has a fixed, short length. -/
theorem Instr.ReadsBack.of_short {i : Instr} {t : Byte} {p : List Byte} (he : encodeRequest i = some (t, p))
    (hlen : p.length.ble 249 = true) (hread : decodeRequest t p = .ok i) : i.ReadsBack :=
  .of_written he (Nat.le_of_ble_eq_true hlen) hread

theorem netWrite_readsBack (id : Word16) (flag : Byte) {pts : List Word16} (h : pts.length ≤ 122) :
    (Instr.netWrite id flag pts).ReadsBack := by
  refine .of_written rfl ?_ ?_
  · have hlen : (bytes16 id ++ [flag, BitVec.ofNat 8 pts.length] ++ pts.flatMap bytes16).length =
        4 + (pts.flatMap bytes16).length := by
      rw [Nat.add_comm]
      rfl
    rw [hlen, points_length]
    omega
  · change sized 0x06#8 ((points16 (pts.flatMap bytes16)).bind fun q =>
      if q.length = (BitVec.ofNat 8 pts.length).toNat then some (.netWrite (of16 _ _) flag q) else none) = _
    rw [points16_bytes, Option.bind_some, if_pos (count_byte (by omega)).symm, of16_bytes]
    rfl

theorem printSet_readsBack (en baud tmo : Byte) {title : List Byte} (h : title.length ≤ 245) :
    (Instr.printSet en baud tmo title).ReadsBack := by
  refine .of_written rfl (by simp only [List.length_append, List.length_cons, List.length_nil]; omega) ?_
  change sized 0x19#8 (if title.length = (BitVec.ofNat 8 title.length).toNat then
    some (.printSet en baud tmo title) else none) = _
  rw [if_pos (count_byte (by omega)).symm]
  rfl

theorem planAdd_readsBack {b : PlanBlock} (h : b.wellFormed = true) : (Instr.planAdd b).ReadsBack := by
  refine .of_written rfl (writePlan_length h) ?_
  change sized 0x0C#8 ((readPlan (writePlan b)).map Instr.planAdd) = _
  rw [readPlan_writePlan h]
  rfl

/-- The eleven action codes, one by one (R92). -/
theorem actionsWrite_readsBack {acts : List Byte} (h : acts.length = 11) (limit : Word16) :
    (Instr.actionsWrite acts limit).ReadsBack := by
  match acts, h with
  | [a0, a1, a2, a3, a4, a5, a6, a7, a8, a9, a10], _ =>
    exact .of_short rfl rfl (congrArg (fun w => Request.ok (.actionsWrite _ w)) (of16_bytes limit))

/-- A type outside the 32 is read as UNKNOWN, the 33rd case of the split (R198). -/
theorem decodeRequest_unknown {t : Byte} (h : t.toNat = 0 ∨ 32 < t.toNat) (p : List Byte) :
    decodeRequest t p = .ok (.unknown t) := by
  unfold decodeRequest
  split
  case h_33 => rfl
  all_goals omega

theorem Instr.readsBack {i : Instr} (h : i.wellFormed = true) : i.ReadsBack := by
  cases i
  case identify | cards | netSum | calRead | planErase | startPlan | pause | resume | abort | runRead | defectTake |
      printCancel | hvRelease | safetyRead | resetWork | resetAll | planRead | streamSet | noticeSet | watchdogSet =>
    exact .of_short rfl rfl rfl
  case pointWrite p l r =>
    exact .of_short rfl rfl (congrArg₂ (fun v w => Request.ok (.pointWrite v w r)) (of16_bytes p) (of16_bytes l))
  case pointRead p => exact .of_short rfl rfl (congrArg (fun w => Request.ok (.pointRead w)) (of16_bytes p))
  case netErase all id => exact .of_short rfl rfl (congrArg (fun w => Request.ok (.netErase all w)) (of16_bytes id))
  case netRead id piece => exact .of_short rfl rfl (congrArg (fun w => Request.ok (.netRead w piece)) (of16_bytes id))
  case calWrite r o g =>
    exact .of_short rfl rfl (congrArg₂ (fun v w => Request.ok (.calWrite r v w)) (of16_bytes o) (of16_bytes g))
  case startLearn r => exact .of_short rfl rfl (congrArg (fun w => Request.ok (.startLearn w)) (of32_bytes r))
  case startZero r lr =>
    exact .of_short rfl rfl (congrArg₂ (fun v w => Request.ok (.startZero v w)) (of16_bytes r) (of16_bytes lr))
  case probe a b r =>
    exact .of_short rfl rfl (congrArg₂ (fun v w => Request.ok (.probe v w r)) (of16_bytes a) (of16_bytes b))
  case netWrite id flag pts => exact netWrite_readsBack id flag (of_decide_eq_true h)
  case planAdd b => exact planAdd_readsBack h
  case actionsWrite acts limit => exact actionsWrite_readsBack (eq_of_beq h) limit
  case printSet en baud tmo title => exact printSet_readsBack en baud tmo (of_decide_eq_true h)
  case unknown t =>
    have htype : t.toNat = 0 ∨ 32 < t.toNat :=
      (Bool.or_eq_true_iff.mp h).imp (fun h0 => congrArg BitVec.toNat (eq_of_beq h0)) of_decide_eq_true
    exact .of_short rfl rfl (decodeRequest_unknown htype [])
  all_goals exact .of_event rfl

/-- Settles O55: request by request (`Instr.readsBack`). -/
theorem requestsReadAsWritten : Obligations.RequestsReadAsWritten := fun _ t p hw he => Instr.readsBack hw t p he

end Sys2Proof
end

section
/-! PROOFS. The frame that carries a request, and what becomes of it: O34; the settings of the link: O33; PROBE's first
batch: O27. -/

namespace Sys2Proof.Machine

/-! ### The transmitter (R199) -/

/-- The link when the transmitter has taken what it can: the reply, or outside a reset the oldest notice. -/
def Flk.transmitted (inReset : Bool) (f : Flk) : Flk :=
  match f.wire with
  | some _ => f
  | none =>
    match f.reply with
    | some r => { f with reply := none, wire := replyWire r }
    | none =>
      if inReset then f
      else match f.notices with
        | [] => f
        | n :: q =>
          { f with
            notices := q
            wire := some { frame := { type := n.kind.type, payload := n.payload }, isReply := false,
                           stream := n.kind == .defect }
            lostSince := if n.kind = .card then [] else f.lostSince }

theorem transmit_eq (s : State) : transmit s = { s with flk := s.flk.transmitted s.resetting.isSome } := by
  cases hwire : s.flk.wire with
  | some w => simp only [transmit, Flk.transmitted, hwire]
  | none =>
    cases hreply : s.flk.reply with
    | some r => simp only [transmit, Flk.transmitted, hwire, hreply, replyWire]
    | none =>
      by_cases hreset : s.resetting.isSome = true
      · simp only [transmit, Flk.transmitted, hwire, hreply, hreset, if_true]
      · cases hq : s.flk.notices <;> simp only [transmit, Flk.transmitted, hwire, hreply, hreset, hq] <;> rfl

/-- What the transmitter leaves alone of the link. -/
theorem Flk.transmitted_keeps (inReset : Bool) (f : Flk) :
    (f.transmitted inReset).requests = f.requests ∧ (f.transmitted inReset).expired = f.expired ∧
    (f.transmitted inReset).ranOut = f.ranOut ∧ (f.transmitted inReset).wdRunning = f.wdRunning := by
  unfold Flk.transmitted
  split
  · exact ⟨rfl, rfl, rfl, rfl⟩
  split
  · exact ⟨rfl, rfl, rfl, rfl⟩
  split
  · exact ⟨rfl, rfl, rfl, rfl⟩
  split <;> exact ⟨rfl, rfl, rfl, rfl⟩

/-- The link when a frame's last byte has gone out (R197, R199). -/
def Flk.sent (w : Wire) (f : Flk) : Flk := { f with wire := none, busy := if w.isReply then false else f.busy }

/-- The last byte of a frame that is no N-DEFECT of the stream: the transmitter goes on. -/
theorem frameGone_eq {s : State} {w : Wire} (hs : s.settled) (hw : s.flk.wire = some w) (hstream : w.stream = false) :
    frameGone s = transmit { s with flk := s.flk.sent w } := by
  have ⟨_, _, hquiet, _⟩ := hs
  simp only [frameGone, hw, hstream, Bool.false_eq_true, if_false]
  exact congrArg transmit (streamFill_settled hquiet)

/-! ### A request taken within a command (R197) -/

/-- A command in which the next request is taken and leaves nothing to an engine: the request's own effect, and the
transmitter. -/
theorem command_serves {g : State → State} {s t : State} (ht : service (g s) = t) (hs : t.settled)
    (hbusy : t.flk.busy = true) (hb : t.mxc.batch = none → s.mxc.batch = none) :
    command g s = .next (transmit t) := by
  have hfin := finish_calm (before := s) hs (.inr (.inl hbusy)) hb
  unfold finish at hfin
  rw [service_idle (.inr (.inl hbusy))] at hfin
  unfold command finish
  rw [ht, hfin]

/-- A request whose owner has placed no reply yet: its effect, and the transmitter. -/
theorem request_waits {s t : State} (i : Instr) (h : s.quiet) (ht : carryOut i s.taken = t) (hs : t.settled)
    (hbusy : t.flk.busy = true) (hb : t.mxc.batch = s.mxc.batch) : request i s = .next (transmit t) :=
  command_serves ((request_quiet i h).trans ht) hs hbusy (by rw [hb]; exact id)

/-! ### The frame of a request (R196 to R198) -/

/-- A command that is a request: its own command is the acceptance of its frame. -/
def Instr.IsRequest (i : Instr) : Prop := ∀ s, exec i s = request i s

/-- What a frame asks for, when it can be carried out, is a request. -/
def Request.Asks (r : Request) : Prop := ∀ i, r = .ok i → Instr.IsRequest i

theorem Request.asks_ok {i : Instr} (h : Instr.IsRequest i) : (Request.ok i).Asks := by
  rintro _ ⟨⟩
  exact h

theorem bare_asks {i : Instr} (h : Instr.IsRequest i) (t : Byte) (p : List Byte) : (bare i t p).Asks := by
  cases p with
  | nil => exact Request.asks_ok h
  | cons => nofun

theorem sized_asks {o : Option Instr} (h : ∀ i, o = some i → Instr.IsRequest i) (t : Byte) : (sized t o).Asks := by
  cases o with
  | none => nofun
  | some i => exact Request.asks_ok (h i rfl)

/-- Every frame that is read as a command is read as a request. The cases of the split bear the numbers of the 32 types; the
33rd is UNKNOWN. -/
theorem decodeRequest_asks (t : Byte) (p : List Byte) : (decodeRequest t p).Asks := by
  unfold decodeRequest
  split
  case h_33 => exact Request.asks_ok fun _ => rfl
  case h_6 =>
    refine sized_asks (fun i hi => ?_) t
    split at hi
    · obtain ⟨pts, -, hi⟩ := Option.bind_eq_some_iff.mp hi
      split at hi <;> cases hi
      exact fun _ => rfl
    · cases hi
  case h_12 =>
    refine sized_asks (fun i hi => ?_) t
    obtain ⟨b, -, rfl⟩ := Option.map_eq_some_iff.mp hi
    exact fun _ => rfl
  case h_25 =>
    refine sized_asks (fun i hi => ?_) t
    split at hi
    · split at hi <;> cases hi
      exact fun _ => rfl
    · cases hi
  case h_3 | h_4 | h_5 | h_7 | h_9 | h_13 | h_14 | h_16 | h_17 | h_22 | h_24 | h_29 | h_30 =>
    refine sized_asks (fun i hi => ?_) t
    split at hi <;> cases hi
    exact fun _ => rfl
  all_goals exact bare_asks (fun _ => rfl) t p

/-- What follows a command's effect looks back at the batch in flight before it, and at nothing else. -/
theorem finish_before {s s' : State} (h : s.mxc = s'.mxc) (t : State) : finish s t = finish s' t := by
  unfold finish takeAfterSettle
  rw [h]

/-- A refused request has placed its REFUSED frame (R198). -/
theorem submit_badLength {s : State} (h : s.quiet) (t : Byte) :
    service (submit (.badLength t) s) = place (refusedFrame t .length) s.taken := by
  obtain ⟨⟨-, hreq⟩, hbusy, -, -, hreset⟩ := h
  rw [submit_ready _ hreq]
  simp [service, reloadWatchdog, hbusy, hreset, carryOutRequest, State.taken, hreq, refuse]

/-- It is on the wire within the command. -/
theorem badLength_refused {s : State} (h : s.quiet) (t : Byte) :
    command (submit (.badLength t)) s = .next (s.refusedWith t .length) := by
  have ⟨hcalm, _, hwire, hreply, _⟩ := h
  have hserved := submit_badLength h t
  rw [command_serves hserved hcalm.1.taken rfl id, transmit_reply (s := place _ s.taken) hwire rfl]
  unfold State.refusedWith State.replied
  rw [← show s.taken.flk.reply = none from hreply]
  rfl

/-- Settles O34: UNKNOWN; the last byte of an accepted frame, which hands its request to the list (`receive_accept`); and the
refusal of a wrong length (`badLength_refused`). -/
theorem acceptedFramesAreCarriedOutOrRefused : Obligations.AcceptedFramesAreCarriedOutOrRefused := by
  refine ⟨fun s t h => request_answered (.unknown t) h _ rfl, ?_⟩
  intro s l t b p ha hsum s0
  have hcheck : checkPasses l (t :: p) b = true := (checkPasses_iff l (t :: p) b).mpr hsum
  have hlast : receive b s = submit (decodeRequest t p) s0 := receive_accept ha hcheck
  have hbyte : exec (.receivedByte b) s = command (submit (decodeRequest t p)) s0 :=
    congrArg Host.Outcome.next ((congrArg (finish s) hlast).trans (finish_before (s' := s0) rfl _))
  refine ⟨fun i hi => ?_, fun hbad h => ?_⟩
  · rw [hbyte, hi, decodeRequest_asks t p i hi s0]
    rfl
  · rw [hbyte, hbad]
    exact badLength_refused (s := s0) h t

/-! ### NOTICE-SET and WATCHDOG-SET (R200, R202) -/

/-- The four classes, as stored, are the mask's low four bits. -/
theorem maskOf_low (m : Byte) :
    le8 (maskOf [m.getLsbD 0, m.getLsbD 1, m.getLsbD 2, m.getLsbD 3]) = [m &&& 15#8] := by
  revert m
  decide

/-- The link's settings after NOTICE-SET, its queue without the classes switched off (R200). -/
def Flk.noticesSet (m : Byte) (f : Flk) : Flk :=
  let g := { f with
    classRun := m.getLsbD 0, classSafety := m.getLsbD 1, classPrinter := m.getLsbD 2, classCard := m.getLsbD 3 }
  { g with notices := g.notices.filter (keepNotice g) }

theorem doNoticeSet_eq (m : Byte) (s : State) : doNoticeSet m s =
    place (replyFrame 0x1D#8 [m &&& 15#8]) { s with flk := s.flk.noticesSet m } := by
  rw [← maskOf_low]
  rfl

theorem mem_noticesSet {m : Byte} {f : Flk} {n : Notice} : n ∈ (f.noticesSet m).notices ↔ n ∈ f.notices ∧
    match n.kind with
    | .defect => True
    | .run => m.getLsbD 0 = true
    | .safety => m.getLsbD 1 = true
    | .printer => m.getLsbD 2 = true
    | .card => m.getLsbD 3 = true := by
  refine List.mem_filter.trans (and_congr_right fun _ => ?_)
  unfold keepNotice Flk.classOn
  cases n.kind
  case defect => exact iff_of_true rfl trivial
  all_goals exact Iff.rfl

/-- The period that WATCHDOG-SET stores (R202). -/
def periodOf (sec : Byte) : Nat := min 60 sec.toNat

theorem periodOf_ne_zero (sec : Byte) : (periodOf sec != 0) = (sec != 0#8) := by
  rw [Bool.eq_iff_iff, bne_iff_ne, bne_iff_ne, ne_eq, ne_eq, ← BitVec.toNat_inj]
  unfold periodOf
  change ¬_ ↔ ¬sec.toNat = 0
  omega

theorem doWatchdogSet_eq (sec : Byte) (s : State) : doWatchdogSet sec s =
    place (replyFrame 0x1E#8 (le8 (periodOf sec)))
      { s with flk := { s.flk with wdPeriod := periodOf sec, wdRunning := sec != 0#8 && !s.flk.ranOut } } := by
  rw [← periodOf_ne_zero]
  rfl

/-- NOTICE-SET replies, and nothing but the link has changed (R200). -/
theorem noticeSet_stores {s : State} (h : s.quiet) (m : Byte) : exec (.noticeSet m) s = .next { s.taken with
    flk := { s.taken.flk.noticesSet m with reply := none, wire := replyWire (replyFrame 0x1D#8 [m &&& 15#8]) } } := by
  have ⟨hcalm, _, hwire, _⟩ := h
  exact request_answers (.noticeSet m) h _ _ (doNoticeSet_eq m s.taken) hcalm.1.taken hwire rfl id

/-- WATCHDOG-SET replies, and its frame has ended any silence (R202). -/
theorem watchdogSet_stores {s : State} (h : s.quiet) (sec : Byte) : exec (.watchdogSet sec) s = .next { s.taken with
    flk := { s.taken.flk with
      wdPeriod := periodOf sec, wdRunning := sec != 0#8, reply := none
      wire := replyWire (replyFrame 0x1E#8 (le8 (periodOf sec))) } } := by
  have ⟨hcalm, _, hwire, _⟩ := h
  have hreloaded : (sec != 0#8 && !s.taken.flk.ranOut) = (sec != 0#8) := Bool.and_true _
  rw [← hreloaded]
  exact request_answers (.watchdogSet sec) h _ _ (doWatchdogSet_eq sec s.taken) hcalm.1.taken hwire rfl id

/-- One that waited in the request list is taken when the reply before it has gone out (R197, R202). -/
theorem frameSent_takesWatchdogSet {s : State} {w : Wire} {sec : Byte} (hs : s.settled)
    (hreq : s.flk.requests = [.ok (.watchdogSet sec)]) (hreset : s.resetting = none) (hw : s.flk.wire = some w)
    (hisReply : w.isReply = true) (hstream : w.stream = false) (hreply : s.flk.reply = none) (hq : s.flk.notices = []) :
    exec .frameSent s = .next { s with flk := { s.flk with
      requests := [], busy := true, wdPeriod := periodOf sec, wdRunning := sec != 0#8 && !s.flk.ranOut, reply := none
      wire := replyWire (replyFrame 0x1E#8 (le8 (periodOf sec))) } } := by
  let s1 : State := { s with flk := { s.flk with wire := none, busy := false } }
  let s2 : State := { s with flk := { s.flk with wire := none, busy := true, requests := [] } }
  have hs1 : s1.settled := hs
  have hfree : transmit s1 = s1 := by simp [s1, transmit, hreply, hreset, hq]
  have hgone : frameGone s = s1 := by
    rw [frameGone_eq hs hw hstream, Flk.sent, hisReply, if_pos rfl, hfree]
  have hidle : ¬(s1.flk.busy || s1.resetting.isSome) = true := by simp [s1, hreset]
  have hserve : service (frameGone s) = doWatchdogSet sec s2 := by
    rw [hgone, service, if_neg hidle, show s1.flk.requests = _ from hreq]
    rfl
  rw [doWatchdogSet_eq] at hserve
  exact (command_serves (g := frameGone) hserve hs1 rfl id).trans (congrArg Host.Outcome.next (transmit_reply rfl rfl))

/-- Settles O33: NOTICE-SET; WATCHDOG-SET taken at once, and one that waited. -/
theorem linkSettingsAreStored : Obligations.LinkSettingsAreStored := by
  refine ⟨fun s m sec h => ⟨?notice, ?watchdog⟩, fun s w sec hs hreq hreset hw hisReply hstream hreply hq => ?waited⟩
  case notice =>
    exact ⟨_, noticeSet_stores h m, rfl, rfl, rfl, rfl, fun n => mem_noticesSet (f := s.taken.flk), rfl, rfl, rfl, rfl, rfl,
      rfl, rfl, rfl⟩
  case watchdog =>
    have ⟨_, _, _, hreply, _⟩ := h
    rw [watchdogSet_stores h sec, ← hreply]
    rfl
  case waited =>
    rw [frameSent_takesWatchdogSet hs hreq hreset hw hisReply hstream hreply hq, ← hreply]
    rfl

/-! ### PROBE (R205) -/

/-- The range selection of a PROBE (R206). -/
def probeSel (range : Byte) : RangeSel :=
  match range.toNat with
  | 0 => .fixed .cr0
  | 1 => .fixed .cr1
  | 2 => .fixed .cr2
  | _ => .auto

theorem ofCode_probe (range : Byte) : RangeSel.ofCode range.toNat = if 3 < range.toNat then none else some (probeSel range) := by
  unfold probeSel
  generalize range.toNat = n
  match n with
  | 0 | 1 | 2 | 3 => rfl
  | n + 4 => exact (if_pos (by omega)).symm

/-- PROBE's checks in order (R205). -/
theorem doProbe_eq (a b : Word16) (range : Byte) (s : State) : doProbe a b range s =
    if s.active then refuse 0x16#8 .busy s
    else if 4096 ≤ a.toNat ∨ 4096 ≤ b.toNat ∨ a = b ∨ 3 < range.toNat then refuse 0x16#8 .badArg s
    else probeStart a.toNat b.toNat (probeSel range) s := by
  have hpoints : (decide (Config.points ≤ a.toNat) || decide (Config.points ≤ b.toNat) || a == b) = true ↔
      4096 ≤ a.toNat ∨ 4096 ≤ b.toNat ∨ a = b := by
    simp only [Bool.or_eq_true, decide_eq_true_eq, beq_iff_eq, or_assoc]
    exact Iff.rfl
  unfold doProbe
  rw [ofCode_probe]
  refine if_congr Iff.rfl rfl ?_
  by_cases hbad : 4096 ≤ a.toNat ∨ 4096 ≤ b.toNat ∨ a = b
  · rw [if_pos (hpoints.mpr hbad), if_pos (by tauto)]
  · rw [if_neg (mt hpoints.mp hbad)]
    by_cases hrange : 3 < range.toNat
    · have hany : 4096 ≤ a.toNat ∨ 4096 ≤ b.toNat ∨ a = b ∨ 3 < range.toNat := .inr (.inr (.inr hrange))
      rw [if_pos hrange, if_pos hany]
    · have hnone : ¬(4096 ≤ a.toNat ∨ 4096 ≤ b.toNat ∨ a = b ∨ 3 < range.toNat) := by tauto
      rw [if_neg hrange, if_neg hnone]

/-- Settles O27: each refusal is answered at once; a PROBE that passes its checks (`doProbe_eq`) only asks for its batch. -/
theorem probeAsksForItsBatch : Obligations.ProbeAsksForItsBatch := by
  intro s a b range h
  have hdo : carryOut (.probe a b range) s.taken = doProbe a b range s.taken := rfl
  rw [doProbe_eq, show s.taken.active = s.active from rfl] at hdo
  change request _ s = _
  split
  · rw [if_pos ‹_›] at hdo
    exact request_answered _ h _ hdo
  rw [if_neg ‹_›] at hdo
  split
  · rw [if_pos ‹_›] at hdo
    exact request_answered _ h _ hdo
  rw [if_neg ‹_›] at hdo
  rw [request_waits _ h hdo h.1.1.taken rfl rfl]
  rw [transmit_eq, transmit_eq]
  rfl

end Sys2Proof.Machine
end

section
/-! PROOFS. A frame's last byte, a streamed record among them, and the watchdog's end; O56. -/

namespace Sys2Proof.Machine

/-! ### The transmitter goes on (R199) -/

theorem Flk.transmitted_sending {f : Flk} (h : f.wire ≠ none) (inReset : Bool) : f.transmitted inReset = f := by
  obtain ⟨w, hw⟩ := Option.ne_none_iff_exists'.mp h
  rw [Flk.transmitted, hw]

/-- The transmitter takes nothing, or has a frame on the wire. -/
theorem Flk.transmitted_cases (inReset : Bool) (f : Flk) :
    f.transmitted inReset = f ∨ (f.transmitted inReset).wire ≠ none := by
  unfold Flk.transmitted
  split
  · exact .inl rfl
  split
  · exact .inr nofun
  split
  · exact .inl rfl
  split
  · exact .inl rfl
  · exact .inr nofun

/-- What the transmitter has left it leaves again. -/
theorem transmit_transmit (s : State) : transmit (transmit s) = transmit s := by
  have hagain (r : Bool) (f : Flk) : (f.transmitted r).transmitted r = f.transmitted r := by
    rcases f.transmitted_cases r with hsame | hsending
    · rw [hsame, hsame]
    · exact Flk.transmitted_sending hsending r
  rw [transmit_eq s, transmit_eq]
  exact congrArg (fun f => { s with flk := f }) (hagain s.resetting.isSome s.flk)

/-- A command whose effect ends with the transmitter. -/
theorem command_transmits {g : State → State} {s t : State} (hg : g s = transmit t) (ht : t.settled)
    (hreq : t.flk.requests = []) (hb : t.mxc.batch = none → s.mxc.batch = none) : command g s = .next (transmit t) := by
  have hgs := hg
  rw [transmit_eq] at hgs
  obtain ⟨hkept, -⟩ := Flk.transmitted_keeps t.resetting.isSome t.flk
  rw [command_calm hgs ht (hkept.trans hreq) hb, ← transmit_eq, transmit_transmit]

/-! ### A record streamed (R172, R176) -/

/-- The first record in stream loses its host mark. -/
theorem clearStreamed_append {xs ys : List Rec} {r : Rec} (hxs : ∀ x ∈ xs, x.inStream = false) (hr : r.inStream = true) :
    clearStreamed (xs ++ r :: ys) = xs ++ { r with host := false, inStream := false } :: ys := by
  induction xs with
  | nil => exact if_pos hr
  | cons x xs ih =>
    have hx : ¬x.inStream = true := by simp [hxs x List.mem_cons_self]
    exact (if_neg hx).trans (congrArg (x :: ·) (ih fun y hy => hxs y (List.mem_cons_of_mem x hy)))

/-- The record no longer in stream. -/
def Rec.outOfStream (r : Rec) : Rec := { r with inStream := false }

/-- The oldest record in stream stands in the log after `xs` and before `ys`; it waits for print, or its slot frees with
nothing to take it (R172 to R174). -/
structure State.OldestInStream (xs ys : List Rec) (r : Rec) (s : State) : Prop where
  recs : s.dlg.recs = xs ++ r :: ys
  passed : ∀ x ∈ xs, x.inStream = false
  inStream : r.inStream = true
  marked : ∀ x ∈ s.dlg.recs, x.host = true ∨ x.print = true
  unheld : r.print = true ∨ s.dlg.entry = none ∧ s.rnc.hold.logFull = false

/-- Sent, it is left as a record that the host has taken. -/
theorem sweep_streamed {s : State} {xs ys : List Rec} {r : Rec} (h : s.OldestInStream xs ys r) :
    sweep (s.withLog (clearStreamed s.dlg.recs)) = s.withLog (xs ++ r.outOfStream.leftByHost ++ ys) := by
  let u : State := s.withLog (xs ++ r.outOfStream :: ys)
  have hu : u.dlg.recs = xs ++ r.outOfStream :: ys := rfl
  have hmarked : ∀ x ∈ u.dlg.recs, x.host = true ∨ x.print = true := by
    have hall := h.marked
    rw [h.recs] at hall
    rw [hu]
    simp only [List.forall_mem_append, List.forall_mem_cons] at hall ⊢
    exact hall
  have hclear : s.withLog (clearStreamed s.dlg.recs) =
      u.withLog (xs ++ { r.outOfStream with host := false } :: ys) := by
    rw [h.recs, clearStreamed_append h.passed h.inStream]
    rfl
  rw [hclear]
  cases hprint : r.print with
  | true =>
    have hleft : r.outOfStream.leftByHost = [{ r.outOfStream with host := false }] := if_pos hprint
    rw [sweep_taken_printed hu hmarked hprint, hleft, List.append_assoc]
    rfl
  | false =>
    obtain ⟨hentry, hfull⟩ := h.unheld.resolve_left (by simp [hprint])
    have hleft : r.outOfStream.leftByHost = [] := if_neg (by simp [Rec.outOfStream, hprint])
    rw [sweep_taken_unheld hu hmarked hprint (entryTaken_none (s := u.withLog (xs ++ ys)) hentry) hfull, hleft,
      List.append_nil]
    rfl

/-- A log with as many records of each run that wait for print, and with nothing new for the stream, leaves a settled state
settled. -/
theorem settled_withLog {s : State} {recs : List Rec} (h : s.settled)
    (hsame : ∀ run, (recs.filter fun x => x.print && x.run == run).length =
      (s.dlg.recs.filter fun x => x.print && x.run == run).length)
    (hstream : s.dlg.streaming = false ∨ ∀ r ∈ recs, r.host = true → r.inStream = true) :
    (s.withLog recs).settled := by
  obtain ⟨hnil, hprint, -, hstruck⟩ := h
  refine ⟨hnil, fun hidle => (hprint hidle).imp id ?_, hstream, hstruck⟩
  rintro ⟨t, ts, hslots, hheader, hnone, hmore⟩
  refine ⟨t, ts, hslots, hheader, takePrint_eq_none.mpr ((hsame t.runNo).trans (takePrint_eq_none.mp hnone)),
    hmore.imp id fun hmarked => ?_⟩
  rw [runMarked, List.filter_append, List.length_append] at hmarked ⊢
  exact fun hzero => hmarked (hzero ▸ congrArg (· + _) (hsame t.runNo).symm)

theorem settled_streamed {s : State} {xs ys : List Rec} {r : Rec} (h : s.OldestInStream xs ys r) (hs : s.settled) :
    (s.withLog (xs ++ r.outOfStream.leftByHost ++ ys)).settled := by
  have ⟨_, _, hstream, _⟩ := hs
  refine settled_withLog hs (fun run => ?_) (hstream.imp id fun hall => ?_)
  · have hout : ([r.outOfStream].filter fun x => x.print && x.run == run).length =
        ([r].filter fun x => x.print && x.run == run).length := by
      cases hwaits : (r.print && r.run == run) <;> simp [Rec.outOfStream, hwaits]
    rw [printMarked_leftByHost, h.recs, List.append_cons, List.append_cons xs r]
    simp only [List.filter_append, List.length_append, hout]
  · rw [h.recs] at hall
    simp only [List.forall_mem_append, List.forall_mem_cons] at hall ⊢
    obtain ⟨hxs, -, hys⟩ := hall
    refine ⟨⟨hxs, fun x hx hhost => ?_⟩, hys⟩
    unfold Rec.leftByHost at hx
    split at hx
    · cases List.mem_singleton.mp hx
      cases hhost
    · cases hx

/-- Its N-DEFECT's last byte has gone out (R176). -/
theorem frameGone_streamed {s : State} {w : Wire} {xs ys : List Rec} {r : Rec} (hs : s.settled)
    (hw : s.flk.wire = some w) (hstream : w.stream = true) (h : s.OldestInStream xs ys r) :
    frameGone s = transmit (State.withLog (xs ++ r.outOfStream.leftByHost ++ ys) { s with flk := s.flk.sent w }) := by
  have h1 : State.OldestInStream xs ys r { s with flk := s.flk.sent w } := ⟨h.recs, h.passed, h.inStream, h.marked, h.unheld⟩
  obtain ⟨-, -, hquiet, -⟩ := settled_streamed h1 hs
  simp only [frameGone, hw, hstream, if_true]
  exact congrArg transmit ((congrArg streamFill (sweep_streamed h1)).trans (streamFill_settled hquiet))

/-! ### The watchdog runs out (R202) -/

/-- The link silent and its cause latched, with the queue of notices `q`. -/
def State.linkOut (q : List Notice) (s : State) : State :=
  { s with
    hvc := { s.hvc with linkExpired := true, safety := { s.hvc.safety with linkLost := true } }
    flk := { s.flk with expired := true, ranOut := true, wdRunning := false, notices := q } }

/-- The run with LINK_LOST in its hold set; added anew during an energisation, it strikes it (R103). -/
def State.linkHeld (q : List Notice) (s : State) : State :=
  { s with
    rnc := { s.rnc with
      hold := { s.rnc.hold with linkLost := true }
      struck := s.rnc.struck || (!s.rnc.hold.linkLost && s.hvc.energised) }
    flk := { s.flk with notices := q } }

theorem addStriking_link (s : State) : ∃ q, addStriking .linkLost s = s.linkHeld q := addStriking_spec .linkLost s

/-- A strike lasts as long as its energisation, so a settled state is still settled. -/
theorem linkHeld_settled {q : List Notice} {s : State} (h : s.settled) : (s.linkHeld q).settled := by
  obtain ⟨htodo, hprint, hstream, hstruck⟩ := h
  refine ⟨htodo, hprint, hstream, fun hs => ?_⟩
  obtain hs | hs := Bool.or_eq_true_iff.mp hs
  · exact hstruck hs
  · exact (Bool.and_eq_true_iff.mp hs).2

/-- The expiry: the cause latched, high voltage removed, what waits refused, and LINK_LOST in a live run's hold set. -/
theorem watchdogOut_eq {s : State} (h : s.flk.wdRunning = true) : ∃ q, watchdogOut s =
    let u := refuseWaiting .link (removeIfUp (s.linkOut q))
    if u.live then addStriking .linkLost u else u := by
  let s1 : State := { s with flk := { s.flk with expired := true, ranOut := true, wdRunning := false } }
  obtain ⟨q, hq⟩ := latchCause_spec .link { s1 with hvc := { s1.hvc with linkExpired := true } }
  refine ⟨q, ?_⟩
  have hout : linkLost s1 = refuseWaiting .link (removeIfUp (s.linkOut q)) :=
    congrArg (fun t => refuseWaiting .link (removeIfUp t)) hq
  rw [watchdogOut, if_pos h, ← hout]

/-- A settled state after the expiry's effect: only the transmitter follows, and the watchdog's flags stay. -/
theorem expiry_command {s t : State} (ht : watchdogOut s = t) (hs : t.settled) (hreq : t.flk.requests = [])
    (hb : t.mxc.batch = none → s.mxc.batch = none) : ∃ f, exec .linkWatchdogExpiry s = .next { t with flk := f } ∧
      f.expired = t.flk.expired ∧ f.ranOut = t.flk.ranOut ∧ f.wdRunning = t.flk.wdRunning := by
  have hcmd := command_calm ht hs hreq hb
  rw [transmit_eq] at hcmd
  exact ⟨_, hcmd, (Flk.transmitted_keeps _ _).2⟩

/-- With the source off and no energisation that waits, a live run is held, and no more (R103, R151). -/
theorem watchdogOut_down {s : State} (h : s.flk.wdRunning = true) (hoff : s.hvc.sourceOn = false)
    (hwait : s.hvc.waitEnable = none) : ∃ q q', watchdogOut s =
      if s.live = true then (s.linkOut q).linkHeld q' else s.linkOut q := by
  obtain ⟨q, hq⟩ := watchdogOut_eq h
  obtain ⟨q', hstrike⟩ := addStriking_link (s.linkOut q)
  refine ⟨q, q', ?_⟩
  rw [hq, removeIfUp_down (s := s.linkOut q) hoff, refuseWaiting_none .link (s := s.linkOut q) hwait, ← hstrike]
  rfl

/-- The part as high voltage is removed from the ISE's energisation, which has no verdict yet (R135, R146, R151). -/
def State.linkRemoved (q : List Notice) (j : InsulJob) (s : State) : State :=
  { s.linkOut q with
    hvc := { (s.linkOut q).hvc with
      state := .discharge, setpoint := 0, holding := false, checking := false, timer := true
      lamp := decide (30000 < s.hvc.bus) }
    msu := { s.msu with reading := false }
    ise := some { j with removed := true } }

/-- With the source enabled it is removed (R103, R151). -/
theorem watchdogOut_up {s : State} {j : InsulJob} (h : s.flk.wdRunning = true) (hon : s.hvc.sourceOn = true)
    (hwait : s.hvc.waitEnable = none) (hj : s.ise = some j) (hv : j.verdict = .none) (hlive : s.live = true) :
    ∃ q q', watchdogOut s = (s.linkRemoved q j).linkHeld q' := by
  obtain ⟨q, hq⟩ := watchdogOut_eq h
  have hise : (s.linkOut q).ise.map (fun j => if j.verdict = .none then { j with removed := true } else j) =
      some { j with removed := true } := by simp [State.linkOut, hj, hv]
  have hremoved : removeIfUp (s.linkOut q) = s.linkRemoved q j := by
    rw [removeIfUp_up (s := s.linkOut q) hon, removeHv_spec, enterDischarge_spec, hise]
    rfl
  obtain ⟨q', hstrike⟩ := addStriking_link (s.linkRemoved q j)
  rw [hremoved, refuseWaiting_none .link (s := s.linkRemoved q j) hwait] at hq
  exact ⟨q, q', hq.trans ((if_pos hlive).trans hstrike)⟩

/-! ### An energisation that waits (R151, R143) -/

/-- It is refused, and the live run is held. -/
theorem watchdogOut_refuses {s : State} {e : Energ} (h : s.flk.wdRunning = true) (hoff : s.hvc.sourceOn = false)
    (hwait : s.hvc.waitEnable = some e) (hlive : s.live = true) (htodo : s.todo = []) :
    ∃ q q', watchdogOut s = next [.insulRefused .link] ((s.linkOut q).energRefused.linkHeld q') := by
  obtain ⟨q, hq⟩ := watchdogOut_eq h
  obtain ⟨q', hstrike⟩ := addStriking_link (later [.insulRefused .link] (s.linkOut q).energRefused)
  refine ⟨q, q', ?_⟩
  rw [hq, removeIfUp_down (s := s.linkOut q) hoff, refuseWaiting_some .link (s := s.linkOut q) hwait]
  refine (if_pos hlive).trans (hstrike.trans ?_)
  simp [State.linkHeld, State.energRefused, later, next, State.linkOut, htodo]

/-- For the ISE this refusal is as the guard's (`pump_refused`): the cause is not looked at (R143). -/
theorem pump_refusedByLink {s : State} {j : InsulJob} (htodo : s.todo = []) (hfree : s.dlg.heldBack = none)
    (hj : s.ise = some j) (hstage : j.stage = .unit) : pump Config.engineFuel (next [.insulRefused .link] s) =
      pump 999998 (askPermit (setIse { j with phase := .asking } s)) :=
  calc pump Config.engineFuel (next [.insulRefused .link] s)
    _ = pump 999999 (runAct (.insulRefused .link) s) := pump_next _ htodo hfree
    _ = pump Config.engineFuel (next [.insulRefused .guard] s) := (pump_next (.insulRefused .guard) htodo hfree).symm
    _ = pump 999998 (askPermit (setIse { j with phase := .asking } s)) := pump_refused htodo hfree hj hstage

/-- A command whose effect leaves work to an engine, which leaves a settled state: the transmitter follows. -/
theorem command_pumps {g : State → State} {s t u : State} (ht : g s = t) (hreq : t.flk.requests = [])
    (hp : pump Config.engineFuel t = u) (hu : u.settled) (hureq : u.flk.requests = [])
    (hb : u.mxc.batch = none → s.mxc.batch = none) : command g s = .next (transmit u) := by
  have hfin := finish_calm (before := s) hu (.inl hureq) hb
  unfold finish at hfin
  rw [service_idle (.inl hureq), pump_nil _ hu.1] at hfin
  unfold command finish
  rw [ht, service_idle (.inl hreq), hp, hfin]

/-- A RUNNING run's insulation unit waits for its energisation, and only the link can keep its permit from it. -/
structure State.AwaitsEnergy (j : InsulJob) (e : Energ) (s : State) : Prop where
  calm : s.calm
  sourceOff : s.hvc.sourceOn = false
  energyOff : s.hvc.energised = false
  wait : s.hvc.waitEnable = some e
  job : s.ise = some j
  stage : j.stage = .unit
  work : s.atWork
  entry : s.dlg.entry = none
  free : s.dlg.heldBack = none
  room : s.dlg.recs.length < 256
  guard : s.hvc.guardClosed = true
  trip : s.hvc.tripLatch = false

/-- The state in which it is held (R97, R103). -/
def State.linkParked (q : List Notice) (j : InsulJob) (s : State) : State :=
  { (s.linkOut q).energRefused with
    ise := some { j with phase := .parked }
    dlg := { s.dlg with reserved := false }
    rnc := { s.rnc with hold := { s.rnc.hold with linkLost := true }, state := .held, waits := true, unit := none } }

/-- The unit asks again, and is told PARK (R97, R142). -/
theorem expiry_parks {s : State} {j : InsulJob} {e : Energ} (h : s.flk.wdRunning = true) (hw : s.AwaitsEnergy j e) :
    ∃ q, exec .linkWatchdogExpiry s = .next (transmit (s.linkParked q j)) := by
  have ⟨hset, hreq⟩ := hw.calm
  have ⟨htodo, _, _, hstruck⟩ := hset
  have hnever : s.rnc.struck = false := Bool.eq_false_iff.mpr fun hs => by simpa [hw.energyOff] using hstruck hs
  obtain ⟨q, q', hout⟩ := watchdogOut_refuses h hw.sourceOff hw.wait hw.work.live htodo
  let u : State := (s.linkOut q).energRefused.linkHeld q'
  let v : State := setIse { j with phase := .asking } u
  have hstill : v.rnc.struck = false := by
    simp [v, u, State.linkHeld, State.energRefused, State.linkOut, hnever, hw.energyOff]
  have hchecks : v.rnc.hold.checkedBy v.hvc = { s.rnc.hold with linkLost := true } := by
    simp [v, u, State.linkHeld, HoldSet.checkedBy, State.energRefused, State.linkOut, hw.trip, hw.guard]
  have hfound : v.rnc.hold.checkedBy v.hvc ≠ .empty := by
    rw [hchecks]
    exact fun hempty => Bool.noConfusion (congrArg HoldSet.linkLost hempty)
  obtain ⟨q'', hask⟩ := askPermit_parks (s := v) ⟨rfl, hw.stage, hw.energyOff, hw.work⟩ (.inl hstill) hw.entry hw.room
    hfound
  have hparked : askPermit v = s.linkParked q'' j := by
    rw [hask, hchecks]
    simp [State.linkParked, v, u, State.linkHeld, State.energRefused, State.linkOut, hnever]
  have hpump := (pump_refusedByLink (s := u) htodo hw.free hw.job hw.stage).trans
    ((congrArg (pump 999998) hparked).trans (pump_nil 999998 (by exact htodo)))
  exact ⟨q'', command_pumps (g := watchdogOut) hout hreq hpump
    (settled_of_same hset rfl rfl ⟨rfl, rfl, rfl⟩ hnever) hreq id⟩

/-- Settles O56: a frame sent (`frameGone_eq`), a streamed record (`frameGone_streamed`), an expiry with no timer running, with
the source off (`watchdogOut_down`), with it enabled (`watchdogOut_up`), and with an energisation that waits
(`expiry_parks`). -/
theorem frameSentAndWatchdogExpiry : Obligations.FrameSentAndWatchdogExpiry := by
  intro s h lost struckRnc
  have ⟨hset, hreq⟩ := h
  refine ⟨fun w hw hstream => ?sent, fun w xs ys r hw hstream hreply hrecs hxs hr hmarked hunheld => ?streamed,
    fun hstopped => ?stopped, fun hrun hoff hwait => ?down, fun j hrun hon hwait hj hv hlive => ?up,
    fun j e hrun hoff hen hwait hj hstage hstate hverd hentry hback hroom hguard htrip => ?waiting⟩
  case sent =>
    exact command_transmits (t := { s with flk := s.flk.sent w }) (frameGone_eq hset hw hstream) hset hreq id
  case streamed =>
    have hold : s.OldestInStream xs ys r := ⟨hrecs, hxs, hr, hmarked, hunheld⟩
    have hflk : s.flk.sent w = { s.flk with wire := none } := by rw [Flk.sent, hreply]; rfl
    have hgone := frameGone_streamed hset hw hstream hold
    rw [hflk] at hgone
    exact command_transmits hgone (settled_streamed hold hset) hreq id
  case stopped =>
    have hsame : watchdogOut s = s := if_neg (by simp [hstopped])
    exact command_calm hsame hset hreq id
  case down =>
    obtain ⟨q, q', hout⟩ := watchdogOut_down hrun hoff hwait
    by_cases hlive : s.live = true
    · rw [if_pos hlive] at hout
      obtain ⟨f, hf, hexp, hran, hwd⟩ := expiry_command hout (linkHeld_settled hset) hreq id
      exact ⟨_, hf, hexp, hran, hwd, rfl, (if_pos hlive).symm, rfl, rfl, rfl⟩
    · rw [if_neg hlive] at hout
      obtain ⟨f, hf, hexp, hran, hwd⟩ := expiry_command hout hset hreq id
      exact ⟨_, hf, hexp, hran, hwd, rfl, (if_neg hlive).symm, rfl, rfl, rfl⟩
  case up =>
    obtain ⟨q, q', hout⟩ := watchdogOut_up hrun hon hwait hj hv hlive
    obtain ⟨f, hf, hexp, hran, hwd⟩ := expiry_command hout (linkHeld_settled (s := s.linkRemoved q j) hset) hreq id
    exact ⟨_, hf, hexp, hran, hwd, rfl, rfl, rfl, rfl, rfl, rfl⟩
  case waiting =>
    obtain ⟨q, hq⟩ := expiry_parks hrun
      ⟨h, hoff, hen, hwait, hj, hstage, ⟨hstate, hverd⟩, hentry, hback, hroom, hguard, htrip⟩
    rw [transmit_eq] at hq
    obtain ⟨-, hexp, hran, hwd⟩ := Flk.transmitted_keeps (s.linkParked q j).resetting.isSome (s.linkParked q j).flk
    exact ⟨_, hq, hexp, hran, hwd, rfl, rfl, rfl, rfl, rfl⟩

end Sys2Proof.Machine
end
